-- ==== Sys2Proof/Word.lean ====
section
/-! DEFINITION. Sys2Proof/Word.lean: the widths of the values of the Chatpad decoder block `CPD`
(spec/00_scope.md R4, R5; every value is unsigned). -/

namespace Sys2Proof

/-- `W_BYTE` = 8 bits: an inbound byte, a packet byte, a key code, a table entry (R4, decision D28). -/
abbrev Byte := BitVec 8

/-- `W_MOD` = 4 bits: the set of the four modifier flags, Shift at bit 0, Green 1, Orange 2, People 3 (R4, R21). -/
abbrev Modifiers := BitVec 4

/-- `W_CLK` = 32 bits: a reading of the millisecond clock (R4, R31, decision D4). -/
abbrev Clock := BitVec 32

/-- The sequencer's byte count, 3 bits, 0 to 7 (R20, R27). -/
abbrev Count := BitVec 3

end Sys2Proof
end

