-- ==== Sys2Proof/Config.lean ====
section
/-! DEFINITION. Sys2Proof/Config.lean: what an implementation fixes and the spec leaves OPEN
(spec/92_eei_decisions.md, "Summary of OPEN parameters"). `W_CLK` is fixed at 32 (decision D4) and `T0` is the
state's own parameter field `State.t0`. -/

namespace Sys2Proof.Config

/-- FREE VALUE (log entry 2). The byte that cell `a` of the table space holds in the machine that `State.reset`
describes, `a = 56 * t + idx` for entry `idx` of the table numbered `t`. No source gives the contents of the five
tables (R4, R32, decision D14, note N1), so this has no body and nothing can be proved of its values. -/
opaque tableEntry : Nat → Byte

end Sys2Proof.Config
end

