-- ==== Sys2Proof/Machine/Constants.lean ====
section
/-! DEFINITION. Sys2Proof/Machine/Constants.lean: the fixed literals of spec/00_scope.md R3, each named once
(decision D22, note U9: a corrected literal is a one-line change). They stand under Machine/ so that a later repair may
mend them. -/

namespace Sys2Proof.Const

/-- `START_HEARTBEAT` (R3) -/
def startHeartbeat : Byte := 0xA5
/-- `START_KEYREPORT` (R3) -/
def startKeyreport : Byte := 0xB4
/-- `HEADER` (R3) -/
def header : Byte := 0xC5
/-- `MOD_SHIFT`, `MOD_GREEN`, `MOD_ORANGE`, `MOD_PEOPLE`: bit positions in the modifiers (R3, R75, decision D24) -/
def modShift : Nat := 0
/-- `MOD_GREEN` (R3) -/
def modGreen : Nat := 1
/-- `MOD_ORANGE` (R3) -/
def modOrange : Nat := 2
/-- `MOD_PEOPLE` (R3) -/
def modPeople : Nat := 3
/-- `PKT_LEN`, also the number of cells of the packet buffer (R3, R33) -/
def pktLen : Nat := 8
/-- `KEY_BASE` (R3) -/
def keyBase : Byte := 0x11
/-- `ROW_MASK` (R3) -/
def rowMask : Byte := 0x70
/-- `COL_MASK` (R3) -/
def colMask : Byte := 0x07
/-- `TABLE_LEN` (R3) -/
def tableLen : Nat := 56
/-- `N_TABLES` (R3) -/
def nTables : Nat := 5
/-- The number of cells of the table space, `N_TABLES x TABLE_LEN` = 280 (R33) -/
def romLen : Nat := nTables * tableLen
/-- The blank table entry, "no character" (R32, R165, decision D12) -/
def blank : Byte := 0x00
/-- `KA_PERIOD_MS` (R3) -/
def kaPeriodMs : Clock := 1000
/-- `INIT_MSG`, byte 0 first (R3, R85) -/
def initMsg : List Byte := [0x87, 0x02, 0x8C, 0x1F, 0xCC]
/-- `KA_MSG`, byte 0 first (R3, R85) -/
def kaMsg : List Byte := [0x87, 0x02, 0x8C, 0x1B, 0xD0]

end Sys2Proof.Const
end

