-- ==== Sys2Proof/Machine/Memory.lean ====
section
/-! DEFINITION. Sys2Proof/Machine/Memory.lean: the storage of the block as plain data. The spec lays out two spaces
(spec/10_state.md R33): the packet buffer, cells 0 to 7, and the table space, cells 0 to 279. Each is a list of
(address, byte) pairs in one canonical form. Every access is one byte (spec/20_memory.md R55, R56). -/

namespace Sys2Proof.Machine

/-- One storage space: the cells that differ from `Memory.unlisted`, by rising address. -/
abbrev Memory := List Host.Cell

/-- What an address with no entry reads as. In the table space this is the blank entry of R32. In the packet buffer it
is what a cell that nothing has written since reset reads as: DESIGN CHOICE (log entry 3), no rule reads such a cell. -/
def Memory.unlisted : Byte := 0x00

/-- The canonical form: addresses strictly rising, and no entry equal to what an unlisted address reads as. -/
abbrev Memory.wf (m : Memory) : Prop := m.Pairwise (fun c d => c.1 < d.1) ∧ ∀ c ∈ m, c.2 ≠ Memory.unlisted

/-- Every listed address is below `n`: the space has `n` cells (R33). -/
abbrev Memory.within (n : Nat) (m : Memory) : Prop := ∀ c ∈ m, c.1 < n

/-- Read one byte. -/
def Memory.read : Memory → Nat → Byte
  | [], _ => Memory.unlisted
  | (a, v) :: m, x => if a = x then v else Memory.read m x

/-- Put a cell at its place by rising address. -/
def Memory.insert : Memory → Nat → Byte → Memory
  | [], x, v => [(x, v)]
  | (a, w) :: m, x, v => if x < a then (x, v) :: (a, w) :: m else (a, w) :: Memory.insert m x v

/-- Drop the entries of one address. -/
def Memory.erase (m : Memory) (x : Nat) : Memory := m.filter (fun c => c.1 != x)

/-- Write one byte, keeping the canonical form: writing the unlisted value removes the entry. -/
def Memory.write (m : Memory) (x : Nat) (v : Byte) : Memory :=
  if v = Memory.unlisted then Memory.erase m x else Memory.insert (Memory.erase m x) x v

/-- The space whose cells 0 to `n - 1` hold the values of `f`. -/
def Memory.tabulate (n : Nat) (f : Nat → Byte) : Memory :=
  (List.range n).filterMap (fun a => if f a = Memory.unlisted then none else some (a, f a))

end Sys2Proof.Machine
end

