-- ==== Sys2Proof/Syntax.lean ====
section
/-! DEFINITION. Sys2Proof/Syntax.lean: the packets, stimuli, formats and instructions of `CPD`.
An instruction is one row of spec/opcode_table.json: a class of stimulus, a class of completed packet, or an output
pattern (spec/00_scope.md R9, spec/30_encoding.md section 1). -/

namespace Sys2Proof

/-- The eight bytes of an inbound packet in order of arrival, by the names of R70's table (format `PKT64`). -/
structure Packet where
  /-- byte[0], the start marker (R71) -/
  start : Byte
  /-- byte[1], the fixed header of a key report (R72) -/
  hdr : Byte
  /-- byte[2], reserved (R73) -/
  rsv2 : Byte
  /-- byte[3]: bits [3:0] are the modifiers, bits [7:4] are ignored (R74, R76) -/
  mod : Byte
  /-- byte[4], key slot A (R77) -/
  keyA : Byte
  /-- byte[5], key slot B (R77) -/
  keyB : Byte
  /-- byte[6], reserved (R73) -/
  rsv6 : Byte
  /-- byte[7], the checksum (R78) -/
  ck : Byte
  deriving DecidableEq, Repr

/-- The bytes of a packet in order of arrival, byte[0] first (R50). -/
def Packet.bytes (p : Packet) : List Byte := [p.start, p.hdr, p.rsv2, p.mod, p.keyA, p.keyB, p.rsv6, p.ck]

/-- The two values of the framing state machine (R27). -/
inductive Fsm where
  /-- waiting for a start marker -/
  | idle
  /-- a start marker has been taken and the next seven bytes are buffered -/
  | collecting
  deriving DecidableEq, Repr

/-- What the environment presents to the block, one at a time (R8, R186). -/
inductive Stimulus where
  /-- the reset request (R210) -/
  | reset
  /-- one inbound byte has arrived and is taken (R100) -/
  | byte (b : Byte)
  /-- the keep-alive test, with the current clock reading (R193) -/
  | poll (now : Clock)
  /-- the query of the five modifier conditions (R131) -/
  | status
  /-- the query for the character of a key code (R160) -/
  | translate (k : Byte)
  deriving DecidableEq, Repr

/-- The five character tables (R32). -/
inductive Table where
  | base
  | shift
  | green
  | orange
  | people
  deriving DecidableEq, Repr

/-- The formats that have a row in the opcode table (R70, R79, R83 to R87; `ST5` is R30's). -/
inductive Format where
  /-- reset request, 1 bit -/
  | rst1
  /-- one inbound byte, classified by the sequencer, 8 bits -/
  | rx8
  /-- one completed inbound packet, 64 bits, byte[0] at [63:56] -/
  | pkt64
  /-- key code operand of `Translate`, 8 bits -/
  | kc8
  /-- clock operand of `Poll`, 32 bits -/
  | poll32
  /-- the `Status` query, written as its 5-bit result -/
  | st5
  /-- one outbound message, 40 bits, byte 0 at [39:32] -/
  | tx40
  /-- one key event, 9 bits -/
  | ev9
  /-- one diagnostic, 2 bits -/
  | dg2
  deriving DecidableEq, Repr

/-- One constructor for each row of spec/opcode_table.json. -/
inductive Instr where
  /-- RESET: the reset request (R210) -/
  | reset
  /-- START_HB: inbound byte `0xA5` while `Idle` (R101) -/
  | startHb
  /-- START_KR: inbound byte `0xB4` while `Idle` (R101) -/
  | startKr
  /-- IDLE_DISCARD: any other inbound byte while `Idle` (R102) -/
  | idleDiscard (b : Byte)
  /-- COLLECT: an inbound byte while `Collecting` with `cnt` from 1 to 6 (R103) -/
  | collect (b : Byte)
  /-- COMPLETE: an inbound byte while `Collecting` with `cnt = 7` (R104) -/
  | complete (b : Byte)
  /-- HEARTBEAT: a completed packet with `p[0] = 0xA5` (R106) -/
  | heartbeat (p : Packet)
  /-- FRAMEERR: a completed packet with a wrong header byte (R107) -/
  | frameerr (p : Packet)
  /-- CKERR: a completed packet with a wrong checksum (R108) -/
  | ckerr (p : Packet)
  /-- KEYREPORT: an accepted key-report packet (R109) -/
  | keyreport (p : Packet)
  /-- POLL: the keep-alive test (R193) -/
  | poll (now : Clock)
  /-- TRANSLATE: the query for the character of a key code (R160) -/
  | translate (k : Byte)
  /-- STATUS: the query of the five modifier conditions (R131) -/
  | status
  /-- INIT_MSG: the block sends the init message (R85, R210) -/
  | initMsg
  /-- KA_MSG: the block sends the keep-alive message (R85, R193) -/
  | kaMsg
  /-- KEY_DOWN: the block emits a Down event (R86, R141, R142) -/
  | keyDown (code : Byte)
  /-- KEY_UP: the block emits an Up event (R86, R143, R144) -/
  | keyUp (code : Byte)
  /-- DIAG_FRAMING: the block emits the FramingError diagnostic (R87, R107) -/
  | diagFraming
  /-- DIAG_CHECKSUM: the block emits the ChecksumError diagnostic (R87, R108) -/
  | diagChecksum
  deriving DecidableEq, Repr

end Sys2Proof
end

