-- ==== Sys2Proof/Machine/State.lean ====
section
/-! DEFINITION. Sys2Proof/Machine/State.lean: the state of `CPD` (spec/10_state.md R20), the output items and query
answers (spec/00_scope.md R8), the reasons to stop, and the state right after reset (R36). -/

namespace Sys2Proof.Machine

/-- Direction of a key event (R8, R86). -/
inductive Dir where
  | down
  | up
  deriving DecidableEq, Repr

/-- The two diagnostics (R180); a diagnostic carries its kind only (R183). -/
inductive DiagKind where
  | framing
  | checksum
  deriving DecidableEq, Repr

/-- An output item of a step (R8). -/
inductive OutItem where
  /-- `KeyEvent(code, dir)` -/
  | keyEvent (code : Byte) (dir : Dir)
  /-- `Diag(kind)` -/
  | diag (kind : DiagKind)
  /-- `Tx(m)`: one whole outbound message, byte 0 first (R198) -/
  | tx (m : List Byte)
  deriving DecidableEq, Repr

/-- Result of `Translate` (R160, R168). -/
inductive TrResult where
  /-- "no mapping" -/
  | noMapping
  /-- `Char(e)`: the table entry, unchanged -/
  | char (e : Byte)
  deriving DecidableEq, Repr

/-- What a query returns (R8, R131, R160). -/
inductive Answer where
  /-- the word `STATUS[4:0]` (R30) -/
  | status (w : BitVec 5)
  /-- the result of `Translate` -/
  | translate (r : TrResult)
  deriving DecidableEq, Repr

/-- The reasons a step can stop with a fault: none. "No other failure modes exist in this core" (R184), a diagnostic
"must never halt or crash the service loop" (R190), and the step of a byte "never faults and never refuses a byte"
(R100), so the type has no constructor. -/
inductive Fault : Type
  deriving DecidableEq, Repr

/-- The reasons the model gives an instruction no meaning. -/
inductive Refusal where
  /-- Raised by an arm of `exec` whose instruction has no meaning yet (safe). No arm raises it: every row of the
  opcode table has its meaning. -/
  | notModelled (mnemonic : String)
  deriving DecidableEq, Repr

/-- The state. The first nine fields are R20's tuple. `t0` and `rom` are the OPEN parameters of the block (R4, R32,
R35), held as constants that no step writes. `input`, `out` and `answer` are the model's own view of the block's
ports (log entry 1): the stimuli still to be taken, the output list of the current or last step, and the value the
last query returned. -/
structure State where
  /-- the modifiers of the last accepted key report (R21) -/
  lastModifiers : Modifiers
  /-- key code in slot A of the last accepted key report, 0 = empty (R22) -/
  lastKeySlot0 : Byte
  /-- key code in slot B of the last accepted key report, 0 = empty (R23) -/
  lastKeySlot1 : Byte
  /-- the sticky People mode (R25) -/
  peopleModeToggled : Bool
  /-- the sticky Shift lock (R26) -/
  shiftToggled : Bool
  /-- timestamp of the last keep-alive, in milliseconds (R31) -/
  lastKeepAliveTime : Clock
  /-- the framing state machine (R27) -/
  fsm : Fsm
  /-- number of bytes of the current packet held in `buf` (R27) -/
  cnt : Count
  /-- the packet buffer, cells 0 to 7 (R28, R33) -/
  buf : Memory
  /-- parameter `T0`: what reset puts into `lastKeepAliveTime` (R4, R210) -/
  t0 : Clock
  /-- the five read-only character tables, cells 0 to 279 (R32, R33) -/
  rom : Memory
  /-- MODEL'S OWN: the stimuli the environment has yet to present, first to be taken first (R60) -/
  input : List Stimulus
  /-- MODEL'S OWN: the output list of the current or last step, in order of emission (R8, R61) -/
  out : List OutItem
  /-- MODEL'S OWN: the value returned by the last step, if it was a query (R8) -/
  answer : Option Answer
  deriving DecidableEq, Repr

/-- The machine right after the reset step (R36, R210, R213): the reset step has just sent the init message.
`T0` is 0, the spec's suggested default (log entry 4); the tables hold free values (log entry 2); the packet buffer
has nothing written (log entry 3); nothing is presented yet. -/
def State.reset : State where
  lastModifiers := 0
  lastKeySlot0 := 0
  lastKeySlot1 := 0
  peopleModeToggled := false
  shiftToggled := false
  lastKeepAliveTime := 0
  fsm := .idle
  cnt := 0
  buf := []
  t0 := 0
  rom := Memory.tabulate Const.romLen Config.tableEntry
  input := []
  out := [.tx Const.initMsg]
  answer := none

end Sys2Proof.Machine
end

