-- ==== Sys2Proof/Machine/Operands.lean ====
section
/-! DEFINITION. Sys2Proof/Machine/Operands.lean: the operand forms: packet fields and checksum, the index of a key
code, the elapsed time, and the packings of the wider words (spec/30_encoding.md, spec/40_framer.md R109, R110,
spec/43_translator.md R161 to R168, spec/60_exceptions.md R194). -/

namespace Sys2Proof.Machine

/-- `neg8(a) = (256 - a) mod 256` (R6). -/
def neg8 (a : Byte) : Byte := -a

/-- `Checksum(p[0..6])`: the negated sum of bytes 0 to 6, modulo 256 (R110). -/
def checksum (p : Packet) : Byte :=
  neg8 (p.start + p.hdr + p.rsv2 + p.mod + p.keyA + p.keyB + p.rsv6)

/-- `m = p[3][3:0]` (R109, R74; bits [7:4] are dropped, R76). -/
def modifiersOf (p : Packet) : Modifiers := p.mod.extractLsb' 0 4

/-- A start marker is one of the two values of R71. -/
def isStartMarker (b : Byte) : Bool := b == Const.startHeartbeat || b == Const.startKeyreport

/-- Bytes as one number, the first byte the most significant: the packing of `PKT64` and `TX40` (R70, R85). -/
def bytesWord (bs : List Byte) : Nat := bs.foldl (fun n b => n * 256 + b.toNat) 0

/-- The packet as the 64-bit value of R70, byte[0] in bits [63:56]. -/
def packetWord (p : Packet) : Nat := bytesWord p.bytes

/-- The packet a 64-bit value stands for: byte[i] is bits [63-8i:56-8i] (R70). -/
def packetOfWord (w : Nat) : Packet where
  start := BitVec.ofNat 8 (w / 2 ^ 56)
  hdr := BitVec.ofNat 8 (w / 2 ^ 48)
  rsv2 := BitVec.ofNat 8 (w / 2 ^ 40)
  mod := BitVec.ofNat 8 (w / 2 ^ 32)
  keyA := BitVec.ofNat 8 (w / 2 ^ 24)
  keyB := BitVec.ofNat 8 (w / 2 ^ 16)
  rsv6 := BitVec.ofNat 8 (w / 2 ^ 8)
  ck := BitVec.ofNat 8 w

/-- The packet that byte[7] `b` completes: bytes 0 to 6 from the buffer, byte[7] from the stimulus (R104, C10). -/
def packetInBuffer (buf : Memory) (b : Byte) : Packet where
  start := Memory.read buf 0
  hdr := Memory.read buf 1
  rsv2 := Memory.read buf 2
  mod := Memory.read buf 3
  keyA := Memory.read buf 4
  keyB := Memory.read buf 5
  rsv6 := Memory.read buf 6
  ck := b

/-- `x = k -8 KEY_BASE` (R161). -/
def keyOffset (k : Byte) : Byte := k - Const.keyBase

/-- `idx = ((x & 0x70) >> 1) | (x & 0x07)`, 0 to 63 (R162). -/
def tableIndex (k : Byte) : Nat :=
  (((keyOffset k &&& Const.rowMask) >>> 1) ||| (keyOffset k &&& Const.colMask)).toNat

/-- The number of a table in the table space. DESIGN CHOICE (log entry 5): the spec addresses a table by name. -/
def tableNumber : Table → Nat
  | .base => 0
  | .shift => 1
  | .green => 2
  | .orange => 3
  | .people => 4

/-- The cell of the table space that holds entry `idx` of table `t` (R33). -/
def romAddress (t : Table) (idx : Nat) : Nat := tableNumber t * Const.tableLen + idx

/-- `MemRead((t, idx), 1)`: the one 8-bit entry `TABLE_t[idx]` (R55, R167). -/
def readTable (rom : Memory) (t : Table) (idx : Nat) : Byte := Memory.read rom (romAddress t idx)

/-- `elapsed = (now - lastKeepAliveTime) mod 2^32` (R194). -/
def elapsed (now last : Clock) : Clock := now - last

/-- The elapsed time exceeds `KA_PERIOD_MS`, an unsigned and strict comparison (R193, C4). -/
def keepAliveDue (now last : Clock) : Bool := decide (Const.kaPeriodMs < elapsed now last)

/-- Format `EV9`: the code in bits [7:0], the direction in bit 8, 1 for Down (R86). -/
def ev9 (code : Byte) (dir : Dir) : BitVec 9 :=
  match dir with
  | .down => 1#1 ++ code
  | .up => 0#1 ++ code

/-- Format `DG2`: 1 = FramingError, 2 = ChecksumError (R87, R180). -/
def dg2 : DiagKind → BitVec 2
  | .framing => 1
  | .checksum => 2

/-- Format `CH9`: `valid` in bit 8, `ch` in bits [7:0]; "no mapping" is `(0, 0x00)` (R168). -/
def ch9 : TrResult → BitVec 9
  | .noMapping => 0#1 ++ 0#8
  | .char e => 1#1 ++ e

end Sys2Proof.Machine
end

