-- ==== Sys2Proof/Machine/Ops.lean ====
section
/-! DEFINITION. Sys2Proof/Machine/Ops.lean: the named operations over the state that the meanings share: emitting an
output item, moving the sequencer, storing a byte in the packet buffer, raising a diagnostic. -/

namespace Sys2Proof.Machine

/-- `emit X`: append one item to the ordered output list of the current step (R7, R8). -/
def State.emit (s : State) (x : OutItem) : State := { s with out := s.out ++ [x] }

/-- Append several items in order (R61, R145). -/
def State.emitAll (s : State) (xs : List OutItem) : State := { s with out := s.out ++ xs }

/-- `fsm <- Collecting`, `cnt <- n`: the block's analogue of `pc <- target` (R7). -/
def State.collectAt (s : State) (n : Count) : State := { s with fsm := .collecting, cnt := n }

/-- `fsm <- Idle`, `cnt <- 0` (R104). -/
def State.returnToIdle (s : State) : State := { s with fsm := .idle, cnt := 0 }

/-- `buf[i] <- b`: the only store of the block (R7, R56). -/
def State.storeBuf (s : State) (i : Nat) (b : Byte) : State := { s with buf := Memory.write s.buf i b }

/-- Raise a diagnostic, the block's exception (R9, R189): `fsm <- Idle`, `cnt <- 0`, the six `DecoderState` elements
and the buffer keep their values, and the one output item is the `Diag`. "Nothing is saved": no cause register, no saved
sequencer, no vector. There is no return from it: "There is no return instruction, because nothing was entered" (R191);
the next byte is examined in `Idle` like any other. -/
def State.takeDiagnostic (s : State) (k : DiagKind) : State := s.returnToIdle.emit (.diag k)

/-- A query returns a value and leaves the state unchanged (R8, R57). -/
def State.reply (s : State) (a : Answer) : State := { s with answer := some a }

end Sys2Proof.Machine
end

