-- ==== Sys2Proof/Machine/KeySlots.lean ====
section
/-! DEFINITION. Sys2Proof/Machine/KeySlots.lean: sub-block KS, the dual key-slot comparator (spec/42_keyslots.md). -/

namespace Sys2Proof.Machine

/-- A code that is not empty and equals neither of two slots: the test of R141 to R144. -/
def isNewTo (c x y : Byte) : Bool := c != 0 && c != x && c != y

/-- The event for one code if its test holds, else nothing (R141 to R144). -/
def eventIf (test : Bool) (c : Byte) (d : Dir) : List OutItem := if test then [.keyEvent c d] else []

/-- The events of one accepted packet in R145's fixed order: Down(A), Down(B), Up(previous 0), Up(previous 1). The tests
are per slot, not per distinct code (R147). -/
def keyEvents (a b p0 p1 : Byte) : List OutItem :=
  eventIf (isNewTo a p0 p1) a .down ++ eventIf (isNewTo b p0 p1) b .down ++
    eventIf (isNewTo p0 a b) p0 .up ++ eventIf (isNewTo p1 a b) p1 .up

/-- `KeyUpdate(A, B)` (R140): the tests read the previous slots; the overwrite is unconditional (R146). -/
def keyUpdate (a b : Byte) (s : State) : State :=
  { s.emitAll (keyEvents a b s.lastKeySlot0 s.lastKeySlot1) with lastKeySlot0 := a, lastKeySlot1 := b }

end Sys2Proof.Machine
end

