-- ==== Sys2Proof/Machine/Flags.lean ====
section
/-! DEFINITION. Sys2Proof/Machine/Flags.lean: every flag computation of sub-block MOD: the change vector, the two
toggle conditions and the five queries with their status word (spec/41_modifiers.md R121 to R131). -/

namespace Sys2Proof.Machine

/-- `changes = m ^ lastModifiers` (R121). -/
def changes (m prev : Modifiers) : Modifiers := m ^^^ prev

/-- The People bit rises: `changes[3] == 1 and m[3] == 1` (R120, R122). -/
def peopleEdge (m prev : Modifiers) : Bool :=
  (changes m prev).getLsbD Const.modPeople && m.getLsbD Const.modPeople

/-- Shift and Orange are both set in this packet, whatever the last one held (R123). -/
def shiftGesture (m : Modifiers) : Bool := m.getLsbD Const.modShift && m.getLsbD Const.modOrange

/-- `isShiftActive = shiftToggled or lastModifiers[0]` (R126). -/
def isShiftActive (s : State) : Bool := s.shiftToggled || s.lastModifiers.getLsbD Const.modShift

/-- `isGreenActive = lastModifiers[1]` (R127). -/
def isGreenActive (s : State) : Bool := s.lastModifiers.getLsbD Const.modGreen

/-- `isOrangeActive = lastModifiers[2]` (R128). -/
def isOrangeActive (s : State) : Bool := s.lastModifiers.getLsbD Const.modOrange

/-- `isPeopleActive = lastModifiers[3]` (R129). -/
def isPeopleActive (s : State) : Bool := s.lastModifiers.getLsbD Const.modPeople

/-- `isPeopleModeActive = peopleModeToggled` (R130). -/
def isPeopleModeActive (s : State) : Bool := s.peopleModeToggled

/-- `STATUS[4:0]`, bit 4 first in the concatenation (R30, R131, decision D15). -/
def statusWord (s : State) : BitVec 5 :=
  BitVec.ofBool (isPeopleModeActive s) ++ BitVec.ofBool (isPeopleActive s) ++ BitVec.ofBool (isOrangeActive s) ++
    BitVec.ofBool (isGreenActive s) ++ BitVec.ofBool (isShiftActive s)

end Sys2Proof.Machine
end

