-- ==== Sys2Proof/Machine/Modifiers.lean ====
section
/-! DEFINITION. Sys2Proof/Machine/Modifiers.lean: sub-block MOD, the modifier update and the `Status` query
(spec/41_modifiers.md). -/

namespace Sys2Proof.Machine

/-- `ModUpdate(m)` (R120): every test reads the state from before the step; the overwrite is unconditional (R124). It
emits nothing (R125). -/
def modUpdate (m : Modifiers) (s : State) : State :=
  { s with
    peopleModeToggled := if peopleEdge m s.lastModifiers then !s.peopleModeToggled else s.peopleModeToggled
    shiftToggled := if shiftGesture m then !s.shiftToggled else s.shiftToggled
    lastModifiers := m }

/-- STATUS (R131). -/
def execStatus (s : State) : Host.Outcome State Fault Refusal :=
  .next (s.reply (.status (statusWord s)))

end Sys2Proof.Machine
end

