-- ==== Sys2Proof/Machine/Framer.lean ====
section
/-! DEFINITION. Sys2Proof/Machine/Framer.lean: sub-block FR, the classes of one inbound byte and of a completed packet
(spec/40_framer.md). A meaning is its rule's own pseudocode. Which class a byte is, R100's tests, is the decoder's
(Sys2Proof/Decode.lean), so a meaning does not test the sequencer again (log entry 7). -/

namespace Sys2Proof.Machine

/-- START (R101): the marker is stored as byte[0]. -/
def startPacket (marker : Byte) (s : State) : State := (s.storeBuf 0 marker).collectAt 1

/-- START_HB (R101). -/
def execStartHb (s : State) : Host.Outcome State Fault Refusal := .next (startPacket Const.startHeartbeat s)

/-- START_KR (R101). -/
def execStartKr (s : State) : Host.Outcome State Fault Refusal := .next (startPacket Const.startKeyreport s)

/-- IDLE_DISCARD (R102): "no state change, no output". -/
def execIdleDiscard (_b : Byte) (s : State) : Host.Outcome State Fault Refusal := .next s

/-- COLLECT (R103): `buf[cnt] <- b`, `cnt <- cnt + 1`; `fsm` stays. -/
def execCollect (b : Byte) (s : State) : Host.Outcome State Fault Refusal :=
  .next { s.storeBuf s.cnt.toNat b with cnt := s.cnt + 1 }

/-- HEARTBEAT (R106): discarded silently; nothing beyond R104's return to `Idle`. -/
def execHeartbeat (_p : Packet) (s : State) : Host.Outcome State Fault Refusal := .next s

/-- FRAMEERR (R107): FramingError, and the packet is discarded in full (R189). -/
def execFrameerr (_p : Packet) (s : State) : Host.Outcome State Fault Refusal := .next (s.takeDiagnostic .framing)

/-- CKERR (R108): ChecksumError, and the packet is discarded in full (R189). -/
def execCkerr (_p : Packet) (s : State) : Host.Outcome State Fault Refusal := .next (s.takeDiagnostic .checksum)

/-- KEYREPORT (R109): field extraction, then `ModUpdate(m)` and `KeyUpdate(A, B)`. -/
def execKeyreport (p : Packet) (s : State) : Host.Outcome State Fault Refusal :=
  .next (keyUpdate p.keyA p.keyB (modUpdate (modifiersOf p) s))

/-- `Validate(p)`, R105's tests in R105's order: start marker, then header, then checksum. -/
def validate (p : Packet) (s : State) : Host.Outcome State Fault Refusal :=
  if p.start = Const.startHeartbeat then execHeartbeat p s
  else if p.hdr ≠ Const.header then execFrameerr p s
  else if checksum p ≠ p.ck then execCkerr p s
  else execKeyreport p s

/-- COMPLETE (R104): byte[7] is stored, the sequencer returns to `Idle` in every case, and the packet is validated and
dispatched in the same step (decision D1). -/
def execComplete (b : Byte) (s : State) : Host.Outcome State Fault Refusal :=
  validate (packetInBuffer s.buf b) (s.storeBuf 7 b).returnToIdle

end Sys2Proof.Machine
end

