-- ==== Sys2Proof/Machine/KeepAlive.lean ====
section
/-! DEFINITION. Sys2Proof/Machine/KeepAlive.lean: unit KA, the keep-alive timer (spec/60_exceptions.md R193 to R197),
and the reset step (spec/70_reset_and_hazards.md R210). -/

namespace Sys2Proof.Machine

/-- The keep-alive test of one poll (R193): it sends when the elapsed time exceeds 1000 ms and then takes `now` as the
new timestamp. -/
def keepAlive (now : Clock) (s : State) : State :=
  if keepAliveDue now s.lastKeepAliveTime then { s.emit (.tx Const.kaMsg) with lastKeepAliveTime := now } else s

/-- POLL (R193), accepted in every sequencer state (R195). -/
def execPoll (now : Clock) (s : State) : Host.Outcome State Fault Refusal := .next (keepAlive now s)

/-- RESET (R210): every element to its reset value, a partly collected packet dropped without diagnostic (R211), and
the init message sent once (R212). The packet buffer is "unspecified, unobservable" after it: nothing counts as written
(log entry 3). The parameters `T0` and the tables are unchanged (R36). -/
def execReset (s : State) : Host.Outcome State Fault Refusal :=
  .next ({ s with
    lastModifiers := 0
    lastKeySlot0 := 0
    lastKeySlot1 := 0
    peopleModeToggled := false
    shiftToggled := false
    lastKeepAliveTime := s.t0
    fsm := .idle
    cnt := 0
    buf := [] }.emit (.tx Const.initMsg))

end Sys2Proof.Machine
end

