-- ==== Sys2Proof/Machine/Outputs.lean ====
section
/-! DEFINITION. Sys2Proof/Machine/Outputs.lean: the six output rows of the opcode table. Each is the pseudocode's
`emit` of its item (spec/00_scope.md R7): it appends the item to the output list of the current step and does nothing
else. No stimulus decodes to one: they happen inside the steps of `RESET`, `POLL` and `COMPLETE` (log entry 8). -/

namespace Sys2Proof.Machine

/-- INIT_MSG (R85, R198). -/
def execInitMsg (s : State) : Host.Outcome State Fault Refusal := .next (s.emit (.tx Const.initMsg))

/-- KA_MSG (R85, R198). -/
def execKaMsg (s : State) : Host.Outcome State Fault Refusal := .next (s.emit (.tx Const.kaMsg))

/-- The emission of one key event; the code 0 "never generates an event" (R38, R149). -/
def emitKey (code : Byte) (d : Dir) (s : State) : State := if code = 0 then s else s.emit (.keyEvent code d)

/-- KEY_DOWN (R86, R141). -/
def execKeyDown (code : Byte) (s : State) : Host.Outcome State Fault Refusal := .next (emitKey code .down s)

/-- KEY_UP (R86, R143). -/
def execKeyUp (code : Byte) (s : State) : Host.Outcome State Fault Refusal := .next (emitKey code .up s)

/-- DIAG_FRAMING (R87, R180). -/
def execDiagFraming (s : State) : Host.Outcome State Fault Refusal := .next (s.emit (.diag .framing))

/-- DIAG_CHECKSUM (R87, R180). -/
def execDiagChecksum (s : State) : Host.Outcome State Fault Refusal := .next (s.emit (.diag .checksum))

end Sys2Proof.Machine
end

