-- ==== Sys2Proof/Machine/Translator.lean ====
section
/-! DEFINITION. Sys2Proof/Machine/Translator.lean: sub-block TR, key code to character (spec/43_translator.md). -/

namespace Sys2Proof.Machine

/-- The five-way select by priority: People mode, Orange, Green, Shift, Base (R166). -/
def selectTable (s : State) : Table :=
  if isPeopleModeActive s then .people
  else if isOrangeActive s then .orange
  else if isGreenActive s then .green
  else if isShiftActive s then .shift
  else .base

/-- A table entry as a result: the blank entry is "no mapping" (R165, R168). -/
def entryResult (e : Byte) : TrResult := if e = Const.blank then .noMapping else .char e

/-- `Translate(k)` (R160): the bound test comes before the read (R163). -/
def translateKey (k : Byte) (s : State) : TrResult :=
  if Const.tableLen ≤ tableIndex k then .noMapping
  else entryResult (readTable s.rom (selectTable s) (tableIndex k))

/-- TRANSLATE (R160, R169). -/
def execTranslate (k : Byte) (s : State) : Host.Outcome State Fault Refusal :=
  .next (s.reply (.translate (translateKey k s)))

end Sys2Proof.Machine
end

