-- ==== Sys2Proof/Machine/Dispatch.lean ====
section
/-! DEFINITION. Sys2Proof/Machine/Dispatch.lean: one arm per row of the opcode table. -/

namespace Sys2Proof.Machine

def exec (i : Instr) (s : State) : Host.Outcome State Fault Refusal :=
  match i with
  | .reset => Sys2Proof.Machine.execReset s
  | .startHb => Sys2Proof.Machine.execStartHb s
  | .startKr => Sys2Proof.Machine.execStartKr s
  | .idleDiscard b => Sys2Proof.Machine.execIdleDiscard b s
  | .collect b => Sys2Proof.Machine.execCollect b s
  | .complete b => Sys2Proof.Machine.execComplete b s
  | .heartbeat p => Sys2Proof.Machine.execHeartbeat p s
  | .frameerr p => Sys2Proof.Machine.execFrameerr p s
  | .ckerr p => Sys2Proof.Machine.execCkerr p s
  | .keyreport p => Sys2Proof.Machine.execKeyreport p s
  | .poll now => Sys2Proof.Machine.execPoll now s
  | .translate k => Sys2Proof.Machine.execTranslate k s
  | .status => Sys2Proof.Machine.execStatus s
  | .initMsg => Sys2Proof.Machine.execInitMsg s
  | .kaMsg => Sys2Proof.Machine.execKaMsg s
  | .keyDown code => Sys2Proof.Machine.execKeyDown code s
  | .keyUp code => Sys2Proof.Machine.execKeyUp code s
  | .diagFraming => Sys2Proof.Machine.execDiagFraming s
  | .diagChecksum => Sys2Proof.Machine.execDiagChecksum s

end Sys2Proof.Machine
end

