-- ==== Sys2Proof/WellFormed.lean ====
section
/-! DEFINITION. Sys2Proof/WellFormed.lean: the checks on an instruction that its fields do not enforce: the
"constraint" and "mode" entries of spec/opcode_table.json. -/

namespace Sys2Proof

/-- The format of each row of the opcode table. -/
def Instr.format : Instr → Format
  | .reset => .rst1
  | .startHb => .rx8
  | .startKr => .rx8
  | .idleDiscard _ => .rx8
  | .collect _ => .rx8
  | .complete _ => .rx8
  | .heartbeat _ => .pkt64
  | .frameerr _ => .pkt64
  | .ckerr _ => .pkt64
  | .keyreport _ => .pkt64
  | .poll _ => .poll32
  | .translate _ => .kc8
  | .status => .st5
  | .initMsg => .tx40
  | .kaMsg => .tx40
  | .keyDown _ => .ev9
  | .keyUp _ => .ev9
  | .diagFraming => .dg2
  | .diagChecksum => .dg2

/-- The constraints of the table's rows: the byte of an Idle discard is no start marker (R102); a packet's class is
the one its bytes have (R82); a key event never carries the code 0 (R86, R149). -/
def Instr.wf : Instr → Bool
  | .reset => true
  | .startHb => true
  | .startKr => true
  | .idleDiscard b => !Machine.isStartMarker b
  | .collect _ => true
  | .complete _ => true
  | .heartbeat p => p.start == Const.startHeartbeat
  | .frameerr p => p.start == Const.startKeyreport && p.hdr != Const.header
  | .ckerr p => p.start == Const.startKeyreport && p.hdr == Const.header && Machine.checksum p != p.ck
  | .keyreport p => p.start == Const.startKeyreport && p.hdr == Const.header && Machine.checksum p == p.ck
  | .poll _ => true
  | .translate _ => true
  | .status => true
  | .initMsg => true
  | .kaMsg => true
  | .keyDown code => code != 0
  | .keyUp code => code != 0
  | .diagFraming => true
  | .diagChecksum => true

/-- The sequencer states in which a row's pattern is decoded: the table's "mode" (R79, R80). -/
def Instr.decodedIn (i : Instr) (fsm : Fsm) (cnt : Count) : Bool :=
  match i with
  | .startHb => fsm == .idle
  | .startKr => fsm == .idle
  | .idleDiscard _ => fsm == .idle
  | .collect _ => fsm == .collecting && decide (1 ≤ cnt.toNat) && decide (cnt.toNat ≤ 6)
  | .complete _ => fsm == .collecting && cnt.toNat == 7
  | .reset => true
  | .heartbeat _ => true
  | .frameerr _ => true
  | .ckerr _ => true
  | .keyreport _ => true
  | .poll _ => true
  | .translate _ => true
  | .status => true
  | .initMsg => true
  | .kaMsg => true
  | .keyDown _ => true
  | .keyUp _ => true
  | .diagFraming => true
  | .diagChecksum => true

end Sys2Proof
end

