-- ==== Sys2Proof/Decode.lean ====
section
/-! DEFINITION. Sys2Proof/Decode.lean: the decoder and the encoder (spec/30_encoding.md). A word of the block is read
under its FORMAT, the port it stands on, because the formats share bit patterns; a byte of format `RX8` is read under
the sequencer as well, "the only such mode" (R81). -/

namespace Sys2Proof

/-- Why a word is no instruction. -/
inductive DecodeError where
  /-- the value has more bits than the format -/
  | tooWide
  /-- the byte string has not the format's length -/
  | wrongLength
  /-- `RST1` with the request bit 0: no reset is requested (R84) -/
  | noResetRequest
  /-- `PKT64` whose byte[0] is neither start marker: it "can" not "occur in a collected packet" (R70, R79) -/
  | noStartMarker
  /-- `TX40` other than the two messages: "The block sends exactly two messages" (R85) -/
  | noSuchMessage
  /-- `EV9` with code 0: "`code` is never 0" (R86) -/
  | eventCodeZero
  /-- `DG2` 0 or 3: "never produced" (R87) -/
  | neverProduced
  deriving DecidableEq, Repr

/-- The width of a format in bits (R70, R79, R83 to R87, R30). -/
def Format.width : Format → Nat
  | .rst1 => 1
  | .rx8 => 8
  | .pkt64 => 64
  | .kc8 => 8
  | .poll32 => 32
  | .st5 => 5
  | .tx40 => 40
  | .ev9 => 9
  | .dg2 => 2

/-- The format's length in whole bytes. -/
def Format.byteLen (f : Format) : Nat := (f.width + 7) / 8

/-- The class of one inbound byte: R100's tests, in R100's order (R79, R80). -/
def classifyByte (fsm : Fsm) (cnt : Count) (b : Byte) : Instr :=
  match fsm with
  | .idle =>
    if b = Const.startHeartbeat then .startHb
    else if b = Const.startKeyreport then .startKr
    else .idleDiscard b
  | .collecting => if cnt.toNat < 7 then .collect b else .complete b

/-- The class of a completed packet: "tested in this order; the first that matches decides" (R82). -/
def classifyPacket (p : Packet) : Option Instr :=
  if p.start = Const.startHeartbeat then some (.heartbeat p)
  else if p.start = Const.startKeyreport then
    if p.hdr ≠ Const.header then some (.frameerr p)
    else if Machine.checksum p ≠ p.ck then some (.ckerr p)
    else some (.keyreport p)
  else none

/-- The instruction a stimulus is, in a given sequencer state (R8, R186). -/
def decodeStimulus (fsm : Fsm) (cnt : Count) : Stimulus → Instr
  | .reset => .reset
  | .byte b => classifyByte fsm cnt b
  | .poll now => .poll now
  | .status => .status
  | .translate k => .translate k

/-- An outbound message as the 40-bit value of R85's rows. -/
def decodeMessage (w : Nat) : Except DecodeError Instr :=
  if w = Machine.bytesWord Const.initMsg then .ok .initMsg
  else if w = Machine.bytesWord Const.kaMsg then .ok .kaMsg
  else .error .noSuchMessage

/-- A key event as the 9-bit value of R86. -/
def decodeEvent (w : BitVec 9) : Except DecodeError Instr :=
  if w.extractLsb' 0 8 = 0 then .error .eventCodeZero
  else if w.getLsbD 8 then .ok (.keyDown (w.extractLsb' 0 8))
  else .ok (.keyUp (w.extractLsb' 0 8))

/-- A diagnostic as the 2-bit value of R87. -/
def decodeDiag (w : BitVec 2) : Except DecodeError Instr :=
  if w = Machine.dg2 .framing then .ok .diagFraming
  else if w = Machine.dg2 .checksum then .ok .diagChecksum
  else .error .neverProduced

/-- A completed packet as the 64-bit value of R70. -/
def decodePacket (w : Nat) : Except DecodeError Instr :=
  match classifyPacket (Machine.packetOfWord w) with
  | some i => .ok i
  | none => .error .noStartMarker

/-- The decoder: the value `w` on the port of format `f`, in the sequencer state `(fsm, cnt)`. Total: a value that is
no instruction is rejected by name. A `match`/`mask` pair of all zeros accepts every value (spec/30_encoding.md,
section 1), so every 5-bit value on `ST5` is the `Status` query. -/
def decode (f : Format) (fsm : Fsm) (cnt : Count) (w : Nat) : Except DecodeError Instr :=
  if w < 2 ^ f.width then
    match f with
    | .rst1 => if w = 1 then .ok .reset else .error .noResetRequest
    | .rx8 => .ok (classifyByte fsm cnt (BitVec.ofNat 8 w))
    | .pkt64 => decodePacket w
    | .kc8 => .ok (.translate (BitVec.ofNat 8 w))
    | .poll32 => .ok (.poll (BitVec.ofNat 32 w))
    | .st5 => .ok .status
    | .tx40 => decodeMessage w
    | .ev9 => decodeEvent (BitVec.ofNat 9 w)
    | .dg2 => decodeDiag (BitVec.ofNat 2 w)
  else .error .tooWide

/-- The decoder on bytes, the first byte the most significant: total on any byte string. For `PKT64` and `TX40` that
order is R70's and R85's. For the other formats of more than one byte, `POLL32` (4 bytes) and `EV9` (2 bytes), it is a
DESIGN CHOICE (log entry 20): R51 gives their values no byte order, they never travel as bytes. -/
def decodeBytes (f : Format) (fsm : Fsm) (cnt : Count) (bs : List Byte) : Except DecodeError Instr :=
  if bs.length = f.byteLen then decode f fsm cnt (Machine.bytesWord bs) else .error .wrongLength

/-- The encoder: the value of an instruction in its format. `Status` has no operand and is written as 0. -/
def encode : Instr → Nat
  | .reset => 1
  | .startHb => Const.startHeartbeat.toNat
  | .startKr => Const.startKeyreport.toNat
  | .idleDiscard b => b.toNat
  | .collect b => b.toNat
  | .complete b => b.toNat
  | .heartbeat p => Machine.packetWord p
  | .frameerr p => Machine.packetWord p
  | .ckerr p => Machine.packetWord p
  | .keyreport p => Machine.packetWord p
  | .poll now => now.toNat
  | .translate k => k.toNat
  | .status => 0
  | .initMsg => Machine.bytesWord Const.initMsg
  | .kaMsg => Machine.bytesWord Const.kaMsg
  | .keyDown code => (Machine.ev9 code .down).toNat
  | .keyUp code => (Machine.ev9 code .up).toNat
  | .diagFraming => (Machine.dg2 .framing).toNat
  | .diagChecksum => (Machine.dg2 .checksum).toNat

/-- The format a bare table word is read under (log entry 6). The table's word carries no port, so the length chooses:
each exact width that only one format has, each whole-byte length, and for one byte, where five formats meet, the
table's order among the words a row fixes completely: `0x01` is the reset request, `0x02` is the diagnostic code 2,
every other byte is an inbound byte. -/
def tableFormat (nbits w : Nat) : Option Format :=
  if nbits = 1 then some .rst1
  else if nbits = 2 then some .dg2
  else if nbits = 5 then some .st5
  else if nbits = 8 then (if w = 1 then some .rst1 else if w = 2 then some .dg2 else some .rx8)
  else if nbits = 9 then some .ev9
  else if nbits = 16 then some .ev9
  else if nbits = 32 then some .poll32
  else if nbits = 40 then some .tx40
  else if nbits = 64 then some .pkt64
  else none

/-- The instruction the decoder reads from a word of the opcode table, in the sequencer state that reset leaves
(`Idle`, R36). The bits are numbered as the table numbers them: byte[0] of a packet is bits [63:56] (R70). -/
def decodeTableWord (nbits w : Nat) : Option Instr :=
  match tableFormat nbits w with
  | some f => (decode f .idle 0 w).toOption
  | none => none

end Sys2Proof
end

