-- ==== Sys2Proof/Machine/Fetch.lean ====
section
/-! DEFINITION. Sys2Proof/Machine/Fetch.lean: where a step's instruction comes from. The block fetches from no memory:
it takes the next stimulus that the environment presents (spec/00_scope.md R8, spec/20_memory.md R60, R63), and the
sequencer decides what an inbound byte is. `placeInstr` sets all that it takes for the next step to run an instruction
(log entry 6). -/

namespace Sys2Proof.Machine

/-- A step begins: the stimuli that remain, an empty output list (R8, R61), and no answer yet. -/
def State.beginStep (s : State) (rest : List Stimulus) : State := { s with input := rest, out := [], answer := none }

/-- Present a stimulus as the next one to be taken. -/
def State.present (s : State) (x : Stimulus) : State := { s with input := x :: s.input }

/-- The packet buffer holding bytes 0 to 6 of a packet. -/
def bufferOf (p : Packet) : Memory :=
  Memory.write (Memory.write (Memory.write (Memory.write (Memory.write (Memory.write (Memory.write []
    0 p.start) 1 p.hdr) 2 p.rsv2) 3 p.mod) 4 p.keyA) 5 p.keyB) 6 p.rsv6

/-- Bytes 0 to 6 of a packet are in the buffer and byte[7] is presented, so that the next step completes it. -/
def State.presentPacket (s : State) (p : Packet) : State :=
  { s with buf := bufferOf p, fsm := .collecting, cnt := 7 }.present (.byte p.ck)

/-- A well-formed key report with both reserved bytes 0, the notation `KR m, a, b` (R89). -/
def keyReport (m a b : Byte) : Packet :=
  let p : Packet := ⟨Const.startKeyreport, Const.header, 0, m, a, b, 0, 0⟩
  { p with ck := checksum p }

/-- Set all that the very next step needs to run `i`. An inbound class is presented in a sequencer state that decodes
it so; a packet class as the eighth byte of its packet; an output row as the stimulus whose step emits its item. -/
def placeInstr (i : Instr) (s : State) : State :=
  match i with
  | .reset => s.present .reset
  | .startHb => s.returnToIdle.present (.byte Const.startHeartbeat)
  | .startKr => s.returnToIdle.present (.byte Const.startKeyreport)
  | .idleDiscard b => s.returnToIdle.present (.byte b)
  | .collect b => ((startPacket Const.startKeyreport s)).present (.byte b)
  | .complete b => s.presentPacket { keyReport 0 0 0 with ck := b }
  | .heartbeat p => s.presentPacket p
  | .frameerr p => s.presentPacket p
  | .ckerr p => s.presentPacket p
  | .keyreport p => s.presentPacket p
  | .poll now => s.present (.poll now)
  | .translate k => s.present (.translate k)
  | .status => s.present .status
  | .initMsg => s.present .reset
  | .kaMsg => { s with lastKeepAliveTime := 0 }.present (.poll (Const.kaPeriodMs + 1))
  | .keyDown code => { s with lastKeySlot0 := 0, lastKeySlot1 := 0 }.presentPacket (keyReport 0 code 0)
  | .keyUp code => { s with lastKeySlot0 := code, lastKeySlot1 := 0 }.presentPacket (keyReport 0 0 0)
  | .diagFraming => s.presentPacket { keyReport 0 0 0 with hdr := 0 }
  | .diagChecksum => s.presentPacket { keyReport 0 0 0 with ck := 0 }

/-- The word of an opcode-table row placed where the next step takes its instruction; a word that is no instruction
places nothing. -/
def placeWord (nbits w : Nat) (s : State) : State :=
  match decodeTableWord nbits w with
  | some i => placeInstr i s
  | none => s

end Sys2Proof.Machine
end

