-- ==== Sys2Proof/Machine/Step.lean ====
section
/-! DEFINITION. Sys2Proof/Machine/Step.lean: one step of the block (spec/00_scope.md R8, spec/20_memory.md R60, R61). -/

namespace Sys2Proof.Machine

/-- Take the next stimulus, decode it in the present sequencer state, and perform its one atomic step. With no stimulus
presented the block "simply holds its state" (R201): it "never acts without a stimulus" (R186). -/
def step (s : State) : Host.Outcome State Fault Refusal :=
  match s.input with
  | [] => .next (s.beginStep [])
  | x :: rest => exec (decodeStimulus s.fsm s.cnt x) (s.beginStep rest)

/-- `s` with the instruction of a table word placed so that the next step runs it (log entry 6). -/
def State.withFetchWord (s : State) (nbits w : Nat) : State := placeWord nbits w s

end Sys2Proof.Machine
end

