-- ==== Sys2Proof/Safety.lean ====
section
/-! DEFINITION. Sys2Proof/Safety.lean: the terms the claims are stated in: the invariant of a state, the items the block
may emit, and the relations between two states that agree on what an observer can see. -/

namespace Sys2Proof.Machine

/-- An item the block may emit: a key event with a non-zero code (R149), one of the two diagnostics (R180), or one of
the two messages (R85). -/
def OutItem.legal : OutItem → Prop
  | .keyEvent code _ => code ≠ 0
  | .diag _ => True
  | .tx m => m = Const.initMsg ∨ m = Const.kaMsg

/-- The invariant: R27's two clauses on the sequencer and the start marker, both storage spaces in canonical form and
inside R33's bounds, and only legal items on the output list. -/
structure State.Inv (s : State) : Prop where
  sequencer : s.fsm = .idle ↔ s.cnt = 0
  marker : s.fsm = .collecting →
    Memory.read s.buf 0 = Const.startHeartbeat ∨ Memory.read s.buf 0 = Const.startKeyreport
  bufCanonical : Memory.wf s.buf
  bufBound : Memory.within Const.pktLen s.buf
  romCanonical : Memory.wf s.rom
  romBound : Memory.within Const.romLen s.rom
  outLegal : ∀ x ∈ s.out, OutItem.legal x

/-- The five elements that an accepted key report writes: the data registers of R21 to R23 and the flags of R25, R26. -/
def State.sameDecoderState (s t : State) : Prop :=
  t.lastModifiers = s.lastModifiers ∧ t.lastKeySlot0 = s.lastKeySlot0 ∧ t.lastKeySlot1 = s.lastKeySlot1 ∧
    t.peopleModeToggled = s.peopleModeToggled ∧ t.shiftToggled = s.shiftToggled

/-- Every byte of the packet buffer reads the same. -/
def State.sameBuffer (s t : State) : Prop := ∀ a : Nat, Memory.read t.buf a = Memory.read s.buf a

/-- The two states agree on everything but the contents of the packet buffer. -/
def State.sameButBuffer (s t : State) : Prop := t = { s with buf := t.buf }

/-- The two states agree on everything except the buffer's cells from `cnt` on, which R28 calls unobservable. -/
def State.agreeOnPacket (s t : State) : Prop :=
  State.sameButBuffer s t ∧
    (s.fsm = .collecting → ∀ a : Nat, a < s.cnt.toNat → Memory.read t.buf a = Memory.read s.buf a)

/-- An output item of the outbound port (R198). -/
def OutItem.isTx : OutItem → Bool
  | .tx _ => true
  | .keyEvent _ _ => false
  | .diag _ => false

/-- The two states agree on everything but the keep-alive unit: its register, its parameter `T0`, and the outbound
items (R196). -/
def State.agreeOffKeepAlive (s t : State) : Prop :=
  t = { s with lastKeepAliveTime := t.lastKeepAliveTime, t0 := t.t0, out := t.out } ∧
    t.out.filter (fun x => !x.isTx) = s.out.filter (fun x => !x.isTx)

/-- The two states agree on the keep-alive unit alone: its register, its parameter `T0`, the outbound items, and the
stimuli that will drive it (R196). -/
def State.agreeOnKeepAlive (s t : State) : Prop :=
  t.lastKeepAliveTime = s.lastKeepAliveTime ∧ t.t0 = s.t0 ∧ t.input = s.input ∧
    t.out.filter OutItem.isTx = s.out.filter OutItem.isTx

/-- How many of the two key slots hold the code `c`. -/
def State.slotCount (s : State) (c : Byte) : Nat :=
  (if s.lastKeySlot0 = c then 1 else 0) + (if s.lastKeySlot1 = c then 1 else 0)

/-- The clock reading of a stimulus whose step, ending in `t`, sent the keep-alive message. -/
def sendTime (x : Stimulus) (t : State) : List Clock :=
  match x with
  | .poll now => if .tx Const.kaMsg ∈ t.out then [now] else []
  | .reset => []
  | .byte _ => []
  | .status => []
  | .translate _ => []

/-- The clock readings of the polls of a run at which the keep-alive message was sent, in order. -/
def sendTimes : List Stimulus → State → List Clock
  | [], _ => []
  | x :: xs, s =>
    match step { s with input := [x] } with
    | .next t => sendTime x t ++ sendTimes xs t
    | .fault _ => []
    | .refused _ => []

end Sys2Proof.Machine
end

