-- ==== Sys2Proof/Certificates/Slice0/Obligations.lean ====
section
/-! DEFINITION. Sys2Proof/Certificates/Slice0/Obligations.lean: the statements for the provers, from the spec's numbered
rules. Literals stand as the spec prints them, not under the model's names. -/

open Sys2Proof Sys2Proof.Machine

/-! ### Encoding -/

/-- Every well-formed instruction, with every operand at every value, in every sequencer state in which its row is
decoded, decodes from its own word. The words of a key event, a diagnostic and a reset request are the spec's decisions
D10, D11 and D17 (log entry 10), the word 0 of `Status` the model's choice (log entry 13). -/
def Obligations.EncodedInstructionDecodesBack : Prop :=
  ∀ (i : Instr) (fsm : Fsm) (cnt : Count), i.wf = true → i.decodedIn fsm cnt = true →
    decode i.format fsm cnt (encode i) = .ok i

/-- What the decoder accepts is well formed, of the format it was read under, of a row decoded in that sequencer state
(for a sequencer state that meets R27), and is written by the encoder as the same word; the operand-free `Status` query
is the one that every word of its format means. The words of a key event, a diagnostic and a reset request are the
spec's decisions D10, D11 and D17 (log entry 10), the reading of `ST5` the model's choice (log entry 13). -/
def Obligations.DecodedWordIsWellFormedAndUnique : Prop :=
  ∀ (f : Format) (fsm : Fsm) (cnt : Count) (w : Nat) (i : Instr), decode f fsm cnt w = .ok i →
    i.wf = true ∧ i.format = f ∧ ((fsm = .idle ↔ cnt = 0) → i.decodedIn fsm cnt = true) ∧
      (f ≠ .st5 → encode i = w)

/-- The eight bytes of a packet, in order of arrival, decode to the class of the packet (R70's packing), and to nothing
exactly when byte[0] is no start marker. -/
def Obligations.PacketBytesDecodeToTheirClass : Prop :=
  ∀ (p : Packet) (fsm : Fsm) (cnt : Count),
    (∀ i, classifyPacket p = some i → decodeBytes .pkt64 fsm cnt p.bytes = .ok i) ∧
      (decodeBytes .pkt64 fsm cnt p.bytes = .error .noStartMarker ↔ p.start ≠ 0xA5 ∧ p.start ≠ 0xB4)

/-- A few words written out from the spec's encodings. The key event's word rests on the spec's decision D10, the
diagnostic's on D11, the reset request's on D17 (log entry 10). -/
def Obligations.PublishedWordsDecode : Prop :=
  decode .rst1 .idle 0 1 = .ok .reset ∧
    decode .rx8 .idle 0 0b10100101 = .ok .startHb ∧
    decode .rx8 .idle 0 0b10110100 = .ok .startKr ∧
    decode .rx8 .collecting 3 0b10110100 = .ok (.collect 0xB4) ∧
    decode .pkt64 .idle 0 0xB4C5000017000070 = .ok (.keyreport ⟨0xB4, 0xC5, 0x00, 0x00, 0x17, 0x00, 0x00, 0x70⟩) ∧
    decode .pkt64 .idle 0 0xB4C5000017000071 = .ok (.ckerr ⟨0xB4, 0xC5, 0x00, 0x00, 0x17, 0x00, 0x00, 0x71⟩) ∧
    decode .tx40 .idle 0 0x87028C1FCC = .ok .initMsg ∧
    decode .ev9 .idle 0 0b101000010 = .ok (.keyDown 0x42) ∧
    decode .dg2 .idle 0 0b11 = .error .neverProduced

/-- R82: a packet whose byte[0] is a start marker is of exactly one class, by the tests in R82's order, the checksum
computed on the numbers of the seven bytes. -/
def Obligations.PacketClassesFollowTheTestOrder : Prop :=
  ∀ p : Packet, p.start = 0xA5 ∨ p.start = 0xB4 →
    classifyPacket p = some
      (if p.start = 0xA5 then .heartbeat p
      else if p.hdr ≠ 0xC5 then .frameerr p
      else if (256 - (p.start.toNat + p.hdr.toNat + p.rsv2.toNat + p.mod.toNat + p.keyA.toNat + p.keyB.toNat +
        p.rsv6.toNat) % 256) % 256 ≠ p.ck.toNat then .ckerr p
      else .keyreport p)

/-- R79, R80: the class of one inbound byte in each sequencer state. -/
def Obligations.ByteClassFollowsTheSequencer : Prop :=
  (∀ cnt, decodeStimulus .idle cnt (.byte 0xA5) = .startHb) ∧
    (∀ cnt, decodeStimulus .idle cnt (.byte 0xB4) = .startKr) ∧
    (∀ cnt b, b ≠ 0xA5 → b ≠ 0xB4 → decodeStimulus .idle cnt (.byte b) = .idleDiscard b) ∧
    (∀ cnt b, 1 ≤ cnt.toNat → cnt.toNat ≤ 6 → decodeStimulus .collecting cnt (.byte b) = .collect b) ∧
    (∀ b, decodeStimulus .collecting 7 (.byte b) = .complete b)

/-! ### The step -/

/-- A step takes the next stimulus and runs the instruction that the decoder reads from it in the present sequencer
state, on an empty output list; with no stimulus it holds the state. That stimuli, outputs and the answer stand in the
state is the model's choice (log entry 1), as is the word 0 of `Status` (log entry 13); one step per stimulus is the
spec's decision D1, the reset request's word its decision D17 (log entry 10). -/
def Obligations.StepRunsTheDecodedStimulus : Prop :=
  ∀ s : State,
    (s.input = [] → step s = .next { s with out := [], answer := none }) ∧
    (∀ rest i, s.input = .reset :: rest → decode .rst1 s.fsm s.cnt 1 = .ok i →
      step s = exec i { s with input := rest, out := [], answer := none }) ∧
    (∀ b rest i, s.input = .byte b :: rest → decode .rx8 s.fsm s.cnt b.toNat = .ok i →
      step s = exec i { s with input := rest, out := [], answer := none }) ∧
    (∀ now rest i, s.input = .poll now :: rest → decode .poll32 s.fsm s.cnt now.toNat = .ok i →
      step s = exec i { s with input := rest, out := [], answer := none }) ∧
    (∀ k rest i, s.input = .translate k :: rest → decode .kc8 s.fsm s.cnt k.toNat = .ok i →
      step s = exec i { s with input := rest, out := [], answer := none }) ∧
    (∀ rest i, s.input = .status :: rest → decode .st5 s.fsm s.cnt 0 = .ok i →
      step s = exec i { s with input := rest, out := [], answer := none })

/-- R190, R184: no step faults or refuses, in any state, reachable or not. -/
def Obligations.StepNeverStops : Prop := ∀ s : State, ∃ t, step s = .next t

/-- R61: what a step does and emits does not depend on what the last step emitted or answered. Both fields are the
model's own (log entry 1). -/
def Obligations.StepIgnoresEarlierOutput : Prop :=
  ∀ (s : State) (xs : List OutItem) (a : Option Answer), step { s with out := xs, answer := a } = step s

/-- The invariant holds right after reset. Its clauses on the two storage spaces are the model's data form. -/
def Obligations.ResetStateMeetsTheInvariant : Prop := State.reset.Inv

/-- Every step keeps the invariant, from every state that meets it. -/
def Obligations.StepKeepsTheInvariant : Prop :=
  ∀ s t : State, s.Inv → step s = .next t → t.Inv

/-! ### Sub-block FR -/

/-- R101: a start marker in `Idle` is stored as byte[0] and opens a packet; nothing else changes. -/
def Obligations.StartMarkerOpensAPacket : Prop :=
  ∀ s : State, s.fsm = .idle →
    (∃ t, exec .startHb s = .next t ∧ t = { s with buf := t.buf, cnt := 1, fsm := .collecting } ∧
      Memory.read t.buf 0 = 0xA5 ∧ ∀ a, a ≠ 0 → Memory.read t.buf a = Memory.read s.buf a) ∧
    (∃ t, exec .startKr s = .next t ∧ t = { s with buf := t.buf, cnt := 1, fsm := .collecting } ∧
      Memory.read t.buf 0 = 0xB4 ∧ ∀ a, a ≠ 0 → Memory.read t.buf a = Memory.read s.buf a)

/-- R102: any other byte in `Idle` leaves every element unchanged and emits nothing. -/
def Obligations.IdleByteIsDiscarded : Prop :=
  ∀ (s : State) (b : Byte), s.fsm = .idle → b ≠ 0xA5 → b ≠ 0xB4 → exec (.idleDiscard b) s = .next s

/-- R103: a byte while `Collecting` with `cnt` from 1 to 6 goes to cell `cnt`, whatever its value; nothing but that
cell and the count changes. -/
def Obligations.CollectedByteIsStored : Prop :=
  ∀ (s : State) (b : Byte), s.fsm = .collecting → 1 ≤ s.cnt.toNat → s.cnt.toNat ≤ 6 →
    ∃ t, exec (.collect b) s = .next t ∧ t = { s with buf := t.buf, cnt := t.cnt } ∧
      t.cnt.toNat = s.cnt.toNat + 1 ∧ Memory.read t.buf s.cnt.toNat = b ∧
      ∀ a, a ≠ s.cnt.toNat → Memory.read t.buf a = Memory.read s.buf a

/-- R104, with the spec's decision D1: the eighth byte is stored in cell 7, returns the sequencer to `Idle` in every
case, and runs the class of the packet that bytes 0 to 6 of the buffer and the byte make up. -/
def Obligations.EighthByteCompletesThePacket : Prop :=
  ∀ (s : State) (b : Byte) (p : Packet) (i : Instr), s.fsm = .collecting → s.cnt = 7 →
    p = ⟨Memory.read s.buf 0, Memory.read s.buf 1, Memory.read s.buf 2, Memory.read s.buf 3, Memory.read s.buf 4,
      Memory.read s.buf 5, Memory.read s.buf 6, b⟩ →
    classifyPacket p = some i →
    ∃ u t, u = { s with buf := u.buf, fsm := .idle, cnt := 0 } ∧ Memory.read u.buf 7 = b ∧
      (∀ a, a ≠ 7 → Memory.read u.buf a = Memory.read s.buf a) ∧
      exec (.complete b) s = .next t ∧ exec i u = .next t ∧ t.fsm = .idle ∧ t.cnt = 0 ∧ t.buf = u.buf

/-- R106: a heartbeat packet changes nothing, whatever its bytes 1 to 7. -/
def Obligations.HeartbeatChangesNothing : Prop :=
  ∀ (s : State) (p : Packet), p.start = 0xA5 → exec (.heartbeat p) s = .next s

/-- R107: a key report with a wrong header emits FramingError, once; the sequencer is in `Idle` and nothing else
changes, whatever the checksum. -/
def Obligations.WrongHeaderIsAFramingError : Prop :=
  ∀ (s : State) (p : Packet), p.start = 0xB4 → p.hdr ≠ 0xC5 →
    exec (.frameerr p) s = .next { s with fsm := .idle, cnt := 0, out := s.out ++ [.diag .framing] }

/-- R108: a key report with a right header and a wrong checksum emits ChecksumError, once; the sequencer is in `Idle`
and nothing else changes. -/
def Obligations.WrongChecksumIsAChecksumError : Prop :=
  ∀ (s : State) (p : Packet), p.start = 0xB4 → p.hdr = 0xC5 →
    p.start + p.hdr + p.rsv2 + p.mod + p.keyA + p.keyB + p.rsv6 + p.ck ≠ 0 →
    exec (.ckerr p) s = .next { s with fsm := .idle, cnt := 0, out := s.out ++ [.diag .checksum] }

/-- R189: the step that takes byte[7] of a rejected packet emits its one diagnostic and no other item, leaves the six
`DecoderState` elements and the tables as they were, keeps the discarded bytes in the buffer, and is back in `Idle`; a
heartbeat does the same with no item. -/
def Obligations.RejectedPacketMutatesNothing : Prop :=
  ∀ (s : State) (b : Byte) (rest : List Stimulus) (p : Packet), s.input = .byte b :: rest → s.fsm = .collecting →
    s.cnt = 7 →
    p = ⟨Memory.read s.buf 0, Memory.read s.buf 1, Memory.read s.buf 2, Memory.read s.buf 3, Memory.read s.buf 4,
      Memory.read s.buf 5, Memory.read s.buf 6, b⟩ →
    ∀ xs : List OutItem,
      ((p.start = 0xA5 ∧ xs = []) ∨ (p.start = 0xB4 ∧ p.hdr ≠ 0xC5 ∧ xs = [.diag .framing]) ∨
        (p.start = 0xB4 ∧ p.hdr = 0xC5 ∧ checksum p ≠ b ∧ xs = [.diag .checksum])) →
      ∃ t, step s = .next t ∧
        t = { s with input := rest, fsm := .idle, cnt := 0, buf := t.buf, out := xs, answer := none } ∧
        Memory.read t.buf 7 = b ∧ ∀ a, a ≠ 7 → Memory.read t.buf a = Memory.read s.buf a

/-- R109, with R120 and R140: an accepted key report, from its bytes to the whole next state. Which bit is which
modifier is the spec's decision D24, that four bits are kept its decision D8. -/
def Obligations.AcceptedReportUpdatesTheDecoder : Prop :=
  ∀ (s : State) (p : Packet), p.start = 0xB4 → p.hdr = 0xC5 → checksum p = p.ck →
    exec (.keyreport p) s = .next { s with
      lastModifiers := p.mod.setWidth 4
      peopleModeToggled := s.peopleModeToggled ^^ (p.mod.getLsbD 3 && !s.lastModifiers.getLsbD 3)
      shiftToggled := s.shiftToggled ^^ (p.mod.getLsbD 0 && p.mod.getLsbD 2)
      lastKeySlot0 := p.keyA
      lastKeySlot1 := p.keyB
      out := s.out ++
        (([p.keyA, p.keyB].filter (fun c => c ≠ 0 ∧ c ≠ s.lastKeySlot0 ∧ c ≠ s.lastKeySlot1)).map (.keyEvent · .down) ++
        ([s.lastKeySlot0, s.lastKeySlot1].filter (fun c => c ≠ 0 ∧ c ≠ p.keyA ∧ c ≠ p.keyB)).map (.keyEvent · .up)) }

/-- R110: the checksum is the negated sum of the seven bytes as a number from 0 to 255, and a packet passes exactly
when its eight bytes sum to 0 modulo 256. -/
def Obligations.ChecksumIsTheNegatedSum : Prop :=
  ∀ p : Packet,
    (checksum p).toNat = (256 - (p.start.toNat + p.hdr.toNat + p.rsv2.toNat + p.mod.toNat + p.keyA.toNat +
      p.keyB.toNat + p.rsv6.toNat) % 256) % 256 ∧
    (checksum p = p.ck ↔ (p.start.toNat + p.hdr.toNat + p.rsv2.toNat + p.mod.toNat + p.keyA.toNat + p.keyB.toNat +
      p.rsv6.toNat + p.ck.toNat) % 256 = 0)

/-- CP's property 1 (spec/95_test_vectors.md S3): any seven bytes that begin `B4 C5`, followed by their checksum, are
an accepted key report. -/
def Obligations.ChecksumRoundTripIsAccepted : Prop :=
  ∀ p : Packet, p.start = 0xB4 → p.hdr = 0xC5 →
    classifyPacket { p with ck := checksum p } = some (.keyreport { p with ck := checksum p })

/-- R73 and the spec's decision D8: the reserved bytes and bits [7:4] of byte[3] play no part in what an accepted
report does. -/
def Obligations.ReservedBitsHaveNoEffect : Prop :=
  ∀ (s : State) (p q : Packet), (.keyreport p : Instr).wf = true → (.keyreport q : Instr).wf = true →
    p.keyA = q.keyA → p.keyB = q.keyB → p.mod.setWidth 4 = (q.mod.setWidth 4 : BitVec 4) →
    exec (.keyreport p) s = exec (.keyreport q) s

/-- R111: only an inbound byte or a reset moves the sequencer or writes the packet buffer; no poll, no query and no
passage of time does; and no byte but the eighth ends a packet in progress. -/
def Obligations.OnlyByteAndResetMoveTheSequencer : Prop :=
  ∀ s t : State, step s = .next t → (∀ rest, s.input ≠ .reset :: rest) →
    ((∀ b rest, s.input ≠ .byte b :: rest) → t.fsm = s.fsm ∧ t.cnt = s.cnt ∧ t.buf = s.buf) ∧
      (s.fsm = .collecting → s.cnt.toNat < 7 → t.fsm = .collecting)

/-- R81, R27: a packet in progress ends after exactly as many more bytes as it lacks of eight, whatever they are. That
the eighth byte's step returns to `Idle` at once is the spec's decision D1 (log entry 10). -/
def Obligations.PacketEndsAfterEightBytes : Prop :=
  ∀ (s : State) (bs : List Byte) (rest : List Stimulus), s.fsm = .collecting → bs.length + s.cnt.toNat = 8 →
    s.input = bs.map .byte ++ rest →
    ∃ t, Host.Core.run Sys2Proof.core bs.length s = .next t ∧ t.fsm = .idle ∧ t.cnt = 0 ∧ t.input = rest

/-- Sub-block FR as a whole: eight byte stimuli that carry a packet, taken from `Idle`, run exactly the class of that
packet, with its bytes in cells 0 to 7 and nothing else changed. That validation and dispatch are inside the eighth
byte's step is the spec's decision D1 (log entry 10). -/
def Obligations.EightBytesRunThePacketClass : Prop :=
  ∀ (s : State) (p : Packet) (i : Instr) (rest : List Stimulus), s.fsm = .idle → s.cnt = 0 →
    classifyPacket p = some i → s.input = p.bytes.map .byte ++ rest →
    ∃ u t, Host.Core.run Sys2Proof.core 8 s = .next t ∧ exec i u = .next t ∧
      u = { s with input := rest, out := [], answer := none, buf := u.buf } ∧
      (∀ a b, p.bytes[a]? = some b → Memory.read u.buf a = b) ∧
      ∀ a, 8 ≤ a → Memory.read u.buf a = Memory.read s.buf a

/-! ### Sub-block MOD -/

/-- R122: People mode flips exactly on a rising edge of the People bit between accepted key reports. That bit 3 is
People is the spec's decision D24 (log entry 16). -/
def Obligations.PeopleModeFlipsOnTheRisingEdge : Prop :=
  ∀ (s : State) (p : Packet), (.keyreport p : Instr).wf = true →
    ∃ t, exec (.keyreport p) s = .next t ∧
      (s.lastModifiers.getLsbD 3 = false → p.mod.getLsbD 3 = true → t.peopleModeToggled = !s.peopleModeToggled) ∧
      (s.lastModifiers.getLsbD 3 = true ∨ p.mod.getLsbD 3 = false → t.peopleModeToggled = s.peopleModeToggled)

/-- R123: Shift lock flips at every accepted key report in which Shift and Orange are both set, whatever the report
before held, and at no other. -/
def Obligations.ShiftLockFlipsAtEveryGesturePacket : Prop :=
  ∀ (s : State) (p : Packet), (.keyreport p : Instr).wf = true →
    ∃ t, exec (.keyreport p) s = .next t ∧
      (p.mod.getLsbD 0 = true → p.mod.getLsbD 2 = true → t.shiftToggled = !s.shiftToggled) ∧
      (p.mod.getLsbD 0 = false ∨ p.mod.getLsbD 2 = false → t.shiftToggled = s.shiftToggled)

/-- CP's properties 4 and 5 (S6, S7): of two successive reports with People set the second does not toggle again; three
successive reports with Shift and Orange set toggle three times. The bits of the buttons are the spec's decision D24
(log entry 16). -/
def Obligations.HeldButtonsRetriggerShiftNotPeople : Prop :=
  ∀ (s : State) (p q r : Packet), (.keyreport p : Instr).wf = true → (.keyreport q : Instr).wf = true →
    (.keyreport r : Instr).wf = true →
    ∃ t u v, exec (.keyreport p) s = .next t ∧ exec (.keyreport q) t = .next u ∧ exec (.keyreport r) u = .next v ∧
      (p.mod.getLsbD 3 = true → q.mod.getLsbD 3 = true → u.peopleModeToggled = t.peopleModeToggled) ∧
      ((∀ x ∈ [p, q, r], x.mod.getLsbD 0 = true ∧ x.mod.getLsbD 2 = true) →
        t.shiftToggled = (!s.shiftToggled) ∧ u.shiftToggled = s.shiftToggled ∧ v.shiftToggled = !s.shiftToggled)

/-- R131, with R126 to R130: the `Status` query answers the five conditions, one bit each, and changes nothing. -/
def Obligations.StatusAnswersTheFiveConditions : Prop :=
  ∀ s : State, ∃ w : BitVec 5, exec .status s = .next { s with answer := some (.status w) } ∧
    w.getLsbD 0 = (s.shiftToggled || s.lastModifiers.getLsbD 0) ∧
    w.getLsbD 1 = s.lastModifiers.getLsbD 1 ∧
    w.getLsbD 2 = s.lastModifiers.getLsbD 2 ∧
    w.getLsbD 3 = s.lastModifiers.getLsbD 3 ∧
    w.getLsbD 4 = s.peopleModeToggled

/-- R24: the data registers and the two flags are written only by the step that accepts the eighth byte of a valid key
report, and by reset. -/
def Obligations.DecoderStateWrittenOnlyByAcceptedReports : Prop :=
  ∀ s t : State, s.Inv → step s = .next t →
    State.sameDecoderState s t ∨ (∃ rest, s.input = .reset :: rest) ∨
    ∃ b rest p, s.input = .byte b :: rest ∧ s.fsm = .collecting ∧ s.cnt = 7 ∧
      p = ⟨Memory.read s.buf 0, Memory.read s.buf 1, Memory.read s.buf 2, Memory.read s.buf 3, Memory.read s.buf 4,
        Memory.read s.buf 5, Memory.read s.buf 6, b⟩ ∧ classifyPacket p = some (.keyreport p)

/-! ### Sub-block KS -/

/-- R141 to R145: the events of an accepted report and their fixed order. -/
def Obligations.KeyEventsAreTheTransitionsInOrder : Prop :=
  ∀ (s : State) (p : Packet), (.keyreport p : Instr).wf = true →
    ∃ t da db u0 u1, exec (.keyreport p) s = .next t ∧ t.out = s.out ++ (da ++ db ++ u0 ++ u1) ∧
      da = (if p.keyA ≠ 0 ∧ p.keyA ≠ s.lastKeySlot0 ∧ p.keyA ≠ s.lastKeySlot1 then [.keyEvent p.keyA .down] else []) ∧
      db = (if p.keyB ≠ 0 ∧ p.keyB ≠ s.lastKeySlot0 ∧ p.keyB ≠ s.lastKeySlot1 then [.keyEvent p.keyB .down] else []) ∧
      u0 = (if s.lastKeySlot0 ≠ 0 ∧ s.lastKeySlot0 ≠ p.keyA ∧ s.lastKeySlot0 ≠ p.keyB then
        [.keyEvent s.lastKeySlot0 .up] else []) ∧
      u1 = (if s.lastKeySlot1 ≠ 0 ∧ s.lastKeySlot1 ≠ p.keyA ∧ s.lastKeySlot1 ≠ p.keyB then
        [.keyEvent s.lastKeySlot1 .up] else [])

/-- R146: the two slots are overwritten with the report's codes in packet order, in every case. -/
def Obligations.KeySlotsAreOverwritten : Prop :=
  ∀ (s : State) (p : Packet), (.keyreport p : Instr).wf = true →
    ∃ t, exec (.keyreport p) s = .next t ∧ t.lastKeySlot0 = p.keyA ∧ t.lastKeySlot1 = p.keyB

/-- R148 (a), (c): a report whose slots are the previous slots, in either order, emits nothing. -/
def Obligations.HeldKeysEmitNoEvent : Prop :=
  ∀ (s : State) (p : Packet), (.keyreport p : Instr).wf = true →
    ((p.keyA = s.lastKeySlot0 ∧ p.keyB = s.lastKeySlot1) ∨ (p.keyA = s.lastKeySlot1 ∧ p.keyB = s.lastKeySlot0)) →
    ∃ t, exec (.keyreport p) s = .next t ∧ t.out = s.out

/-- R148 (d): with no code doubled in the slots before or after, the keys down as counted from the events are the keys
in the slots. -/
def Obligations.EventsAccountForTheHeldKeys : Prop :=
  ∀ (s : State) (p : Packet) (c : Byte), (.keyreport p : Instr).wf = true → c ≠ 0 →
    (s.lastKeySlot0 ≠ s.lastKeySlot1 ∨ s.lastKeySlot0 = 0) → (p.keyA ≠ p.keyB ∨ p.keyA = 0) →
    ∃ t xs, exec (.keyreport p) s = .next t ∧ t.out = s.out ++ xs ∧
      s.slotCount c + xs.count (.keyEvent c .down) = t.slotCount c + xs.count (.keyEvent c .up)

/-- R226: a key held in the slots that an accepted report lacks is reported up by that report, however many packets
were lost before it. -/
def Obligations.KeyMissingFromAReportIsReleased : Prop :=
  ∀ (s : State) (p : Packet) (c : Byte), (.keyreport p : Instr).wf = true → c ≠ 0 → 0 < s.slotCount c →
    c ≠ p.keyA → c ≠ p.keyB →
    ∃ t xs, exec (.keyreport p) s = .next t ∧ t.out = s.out ++ xs ∧ .keyEvent c .up ∈ xs

/-- R148 (e), R149, R187, R198: one step emits at most four items, none with the code 0; a diagnostic or a message is
the only item of its step. At most one message in a step is the spec's decision D18 (log entry 10). -/
def Obligations.OneStepsOutputIsBounded : Prop :=
  ∀ s t : State, step s = .next t →
    t.out.length ≤ 4 ∧ (∀ d, .keyEvent 0 d ∉ t.out) ∧
      (∀ k, .diag k ∈ t.out → t.out = [.diag k]) ∧ (∀ m, .tx m ∈ t.out → t.out = [.tx m])

/-! ### Sub-block TR -/

/-- R160, with R161 to R167: `Translate` answers the entry at row and column of the offset key code in the table that
the priority selects, and changes nothing. The blank entry is the spec's decision D12; the number of a table in the
table space is the model's choice (log entry 5). The 8-bit offset is its decision D13, the bits of the buttons its
decision D24 (log entries 10 and 16). -/
def Obligations.TranslateReadsTheSelectedTable : Prop :=
  ∀ (s : State) (k : Byte),
    let x := (k.toNat + 256 - 0x11) % 256
    let row := x / 16 % 8
    let col := x % 8
    let table : Table :=
      if s.peopleModeToggled then .people
      else if s.lastModifiers.getLsbD 2 then .orange
      else if s.lastModifiers.getLsbD 1 then .green
      else if s.shiftToggled || s.lastModifiers.getLsbD 0 then .shift
      else .base
    let e := Memory.read s.rom (romAddress table (row * 8 + col))
    exec (.translate k) s = .next { s with answer := some (.translate
      (if row = 7 then .noMapping else if e = 0x00 then .noMapping else .char e)) }

/-- R163: the 32 key codes that have no mapping whatever the tables hold; every other code indexes one of the 56
entries. The 8-bit offset is the spec's decision D13 (log entry 10). -/
def Obligations.TranslateRejectsRowSeven : Prop :=
  (∀ (s : State) (k : Byte), ((0x01 ≤ k.toNat ∧ k.toNat ≤ 0x10) ∨ (0x81 ≤ k.toNat ∧ k.toNat ≤ 0x90)) →
    exec (.translate k) s = .next { s with answer := some (.translate .noMapping) }) ∧
  (∀ k : Byte, ¬ ((0x01 ≤ k.toNat ∧ k.toNat ≤ 0x10) ∨ (0x81 ≤ k.toNat ∧ k.toNat ≤ 0x90)) → tableIndex k < 56)

/-- R163, R225: bits 7 and 3 of the offset key code are ignored: four key codes share every answer. The 8-bit offset is
the spec's decision D13 (log entry 10). -/
def Obligations.TranslateIgnoresTwoBits : Prop :=
  ∀ (s : State) (k : Byte),
    exec (.translate (k + 0x80)) s = exec (.translate k) s ∧
      ((k - 0x11).getLsbD 3 = false → exec (.translate (k + 0x08)) s = exec (.translate k) s)

/-- R170, the spec's decision D9: a code translated after the report that carried it is looked up with that report's
own modifiers and toggles. The bits of the buttons are its decision D24 (log entries 10 and 16). -/
def Obligations.TranslateSeesTheReportsModifiers : Prop :=
  ∀ (s : State) (p : Packet) (k : Byte), (.keyreport p : Instr).wf = true →
    ∃ t u, exec (.keyreport p) s = .next t ∧ exec (.translate k) t = .next u ∧
      u.answer = some (.translate
        (if 56 ≤ tableIndex k then .noMapping
        else entryResult (readTable s.rom
          (if s.peopleModeToggled ^^ (p.mod.getLsbD 3 && !s.lastModifiers.getLsbD 3) then .people
          else if p.mod.getLsbD 2 then .orange
          else if p.mod.getLsbD 1 then .green
          else if (s.shiftToggled ^^ (p.mod.getLsbD 0 && p.mod.getLsbD 2)) || p.mod.getLsbD 0 then .shift
          else .base) (tableIndex k))))

/-- R57, R169: a query changes nothing but the answer, emits nothing, and repeated gives the same answer. -/
def Obligations.QueriesArePure : Prop :=
  ∀ (s : State) (i : Instr), (i = .status ∨ ∃ k, i = .translate k) →
    ∃ t, exec i s = .next t ∧ t = { s with answer := t.answer } ∧ exec i t = .next t

/-- R32, R63: no step writes the tables, and none writes the parameter `T0`, which the model holds in the state (log
entry 4). -/
def Obligations.ParametersAreNeverWritten : Prop :=
  ∀ s t : State, step s = .next t → t.rom = s.rom ∧ t.t0 = s.t0

/-! ### Unit KA, reset, outputs -/

/-- R193, R194, R195: a poll, in every sequencer state, sends the keep-alive message and takes `now` as the timestamp
exactly when the elapsed time, a difference modulo 2^32, exceeds 1000; nothing else changes. -/
def Obligations.PollSendsAfterOneThousandMilliseconds : Prop :=
  ∀ (s : State) (now : Clock),
    (1000 < (now.toNat + 2 ^ 32 - s.lastKeepAliveTime.toNat) % 2 ^ 32 →
      exec (.poll now) s =
        .next { s with lastKeepAliveTime := now, out := s.out ++ [.tx [0x87, 0x02, 0x8C, 0x1B, 0xD0]] }) ∧
    ((now.toNat + 2 ^ 32 - s.lastKeepAliveTime.toNat) % 2 ^ 32 ≤ 1000 → exec (.poll now) s = .next s)

/-- R193, CP's property 7 (S9): on any run without a reset, whatever traffic it carries, two successive keep-alive
messages are more than 1000 ms apart, and so is the first from the timestamp the run starts with. The 32-bit clock is
the spec's decision D4 (log entry 10). -/
def Obligations.KeepAlivesAreMoreThanOneSecondApart : Prop :=
  ∀ (xs : List Stimulus) (s : State), .reset ∉ xs →
    List.IsChain (fun a b : Clock => (1000 : Clock) < b - a) (s.lastKeepAliveTime :: sendTimes xs s)

/-- R188, the spec's decision D19: a byte and a poll presented together lead to the same state in either order, and
each emits the same items. -/
def Obligations.ByteAndPollCommute : Prop :=
  ∀ (s : State) (b : Byte) (now : Clock) (rest : List Stimulus),
    ∃ t1 t2 u1 u2,
      step { s with input := .byte b :: .poll now :: rest } = .next t1 ∧ step t1 = .next t2 ∧
      step { s with input := .poll now :: .byte b :: rest } = .next u1 ∧ step u1 = .next u2 ∧
      t1.out = u2.out ∧ t2.out = u1.out ∧ t2 = { u2 with out := t2.out }

/-- R196: the keep-alive unit shares no state with the rest, in both directions. States that differ only in its
register, its parameter and the outbound items step to such states, so the rest does not read the unit; a poll changes
nothing else, so the unit does not write the rest. States that agree on the unit alone, presented with the same
stimuli, step to such states, so the unit does not read the rest; a step that takes no reset and no poll keeps the
register and sends nothing, so the rest does not write the unit. -/
def Obligations.KeepAliveUnitIsIndependent : Prop :=
  (∀ s t s' : State, State.agreeOffKeepAlive s t → step s = .next s' →
    ∃ t', step t = .next t' ∧ State.agreeOffKeepAlive s' t') ∧
  (∀ (s t : State) (now : Clock) (rest : List Stimulus), s.input = .poll now :: rest → step s = .next t →
    State.agreeOffKeepAlive { s with input := rest, out := [], answer := none } t) ∧
  (∀ s t s' : State, State.agreeOnKeepAlive s t → step s = .next s' →
    ∃ t', step t = .next t' ∧ State.agreeOnKeepAlive s' t') ∧
  (∀ s t : State, step s = .next t → (∀ rest, s.input ≠ .reset :: rest) →
    (∀ now rest, s.input ≠ .poll now :: rest) →
    t.lastKeepAliveTime = s.lastKeepAliveTime ∧ ∀ m, .tx m ∉ t.out)

/-- R28: the contents of the cells from `cnt` on are not observable: states that differ only there step to such states,
with the same outputs, the same answer and the same value in every other element. -/
def Obligations.BufferTailIsUnobservable : Prop :=
  ∀ s t s' : State, State.agreeOnPacket s t → step s = .next s' →
    ∃ t', step t = .next t' ∧ State.agreeOnPacket s' t'

/-- R210, R211, the spec's decisions D5 to D7, D17 and D18: a reset, in any state, puts every element at its reset
value, for whatever `T0` the block has, leaves the tables, and sends the init message once. The buffer's contents,
which R210 leaves unspecified, are not stated. -/
def Obligations.ResetRestoresEveryElement : Prop :=
  ∀ s : State, ∃ t, exec .reset s = .next t ∧
    t = { s with
      lastModifiers := 0
      lastKeySlot0 := 0
      lastKeySlot1 := 0
      peopleModeToggled := false
      shiftToggled := false
      lastKeepAliveTime := s.t0
      fsm := .idle
      cnt := 0
      buf := t.buf
      out := s.out ++ [.tx [0x87, 0x02, 0x8C, 0x1F, 0xCC]] }

/-- R36, the spec's decisions D5 to D7: the values right after reset; the timestamp is the parameter `T0`, whose value
is not stated (log entry 4). -/
def Obligations.ResetStateHoldsTheResetValues : Prop :=
  State.reset.lastModifiers = 0b0000 ∧ State.reset.lastKeySlot0 = 0x00 ∧ State.reset.lastKeySlot1 = 0x00 ∧
    State.reset.peopleModeToggled = false ∧ State.reset.shiftToggled = false ∧
    State.reset.lastKeepAliveTime = State.reset.t0 ∧ State.reset.fsm = .idle ∧ State.reset.cnt = 0 ∧
    statusWord State.reset = 0b00000

/-- R214: the first accepted report after a reset is compared with the reset values: every non-zero code is a Down, a
set People bit turns People mode on, Shift with Orange turns Shift lock on. The reset values are the spec's decision
D6, the bits of the buttons its decision D24 (log entries 4 and 16). -/
def Obligations.FirstReportAfterResetStartsFromNothing : Prop :=
  ∀ (s : State) (p : Packet), (.keyreport p : Instr).wf = true →
    ∃ t u, exec .reset s = .next t ∧ exec (.keyreport p) t = .next u ∧
      u.out = t.out ++ ([p.keyA, p.keyB].filter (· ≠ 0)).map (.keyEvent · .down) ∧
      u.peopleModeToggled = p.mod.getLsbD 3 ∧ u.shiftToggled = (p.mod.getLsbD 0 && p.mod.getLsbD 2) ∧
      u.lastModifiers = p.mod.setWidth 4

/-- R212, R193: the init message leaves on a reset, once, and at no other time; the keep-alive message exactly on a
poll more than 1000 ms after the last. -/
def Obligations.MessagesLeaveOnlyWhenTheRulesSay : Prop :=
  ∀ s t : State, step s = .next t →
    (.tx [0x87, 0x02, 0x8C, 0x1F, 0xCC] ∈ t.out ↔ ∃ rest, s.input = .reset :: rest) ∧
    ((∃ rest, s.input = .reset :: rest) → t.out = [.tx [0x87, 0x02, 0x8C, 0x1F, 0xCC]]) ∧
    (.tx [0x87, 0x02, 0x8C, 0x1B, 0xD0] ∈ t.out ↔
      ∃ now rest, s.input = .poll now :: rest ∧ (1000 : Clock) < now - s.lastKeepAliveTime)

/-- R85 to R87 and the pseudocode's `emit` (R7): each output row, which no stimulus decodes to (log entry 8), emits its
one item at the end of the step's output list and changes nothing else. -/
def Obligations.OutputRowsEmitTheirItem : Prop :=
  ∀ s : State,
    exec .initMsg s = .next { s with out := s.out ++ [.tx [0x87, 0x02, 0x8C, 0x1F, 0xCC]] } ∧
    exec .kaMsg s = .next { s with out := s.out ++ [.tx [0x87, 0x02, 0x8C, 0x1B, 0xD0]] } ∧
    (∀ c : Byte, c ≠ 0 → exec (.keyDown c) s = .next { s with out := s.out ++ [.keyEvent c .down] }) ∧
    (∀ c : Byte, c ≠ 0 → exec (.keyUp c) s = .next { s with out := s.out ++ [.keyEvent c .up] }) ∧
    exec .diagFraming s = .next { s with out := s.out ++ [.diag .framing] } ∧
    exec .diagChecksum s = .next { s with out := s.out ++ [.diag .checksum] }

/-- R149: the code 0 never generates an event, in either direction. That an output row with the code 0 does nothing is
the model's choice (log entry 8). -/
def Obligations.CodeZeroEmitsNoEvent : Prop :=
  ∀ s : State, exec (.keyDown 0) s = .next s ∧ exec (.keyUp 0) s = .next s

/-! ### Frames -/

/-- Every instruction that is no inbound byte and no reset leaves every byte of the packet buffer, the sequencer's
packet in progress aside from a diagnostic's return to `Idle`, the tables and the remaining stimuli unchanged. -/
def Obligations.NonStoringInstructionsKeepTheBuffer : Prop :=
  ∀ (i : Instr) (s t : State), exec i s = .next t → i ≠ .reset → i ≠ .startHb → i ≠ .startKr →
    (∀ b, i ≠ .collect b) → (∀ b, i ≠ .complete b) →
    State.sameBuffer s t ∧ t.rom = s.rom ∧ t.t0 = s.t0 ∧ t.input = s.input ∧
      ((∀ p, i ≠ .frameerr p) → (∀ p, i ≠ .ckerr p) → t.fsm = s.fsm ∧ t.cnt = s.cnt)

/-- The instructions that store one byte in the buffer, with the cell each stores to: cell 0 for a start marker, cell
`cnt` for a collected byte, cell 7 for the eighth byte. Every other cell, the tables and the timestamp are unchanged.
-/
def Obligations.StoringInstructionsChangeOneCell : Prop :=
  ∀ (i : Instr) (s t : State) (cell : Nat), exec i s = .next t →
    ((i = .startHb ∧ cell = 0) ∨ (i = .startKr ∧ cell = 0) ∨ (∃ b, i = .collect b ∧ cell = s.cnt.toNat) ∨
      (∃ b, i = .complete b ∧ cell = 7)) →
    (∀ a, a ≠ cell → Memory.read t.buf a = Memory.read s.buf a) ∧ t.rom = s.rom ∧ t.t0 = s.t0 ∧
      t.lastKeepAliveTime = s.lastKeepAliveTime ∧ t.input = s.input ∧ t.answer = s.answer ∧
      ((∀ b, i ≠ .complete b) → State.sameDecoderState s t ∧ t.out = s.out)

/-- Every instruction but a reset, an accepted report and the byte that may complete one leaves the data registers and
the two flags unchanged; every instruction but a reset and a poll leaves the timestamp unchanged. -/
def Obligations.OtherInstructionsKeepTheRegisters : Prop :=
  ∀ (i : Instr) (s t : State), exec i s = .next t → i ≠ .reset →
    ((∀ p, i ≠ .keyreport p) → (∀ b, i ≠ .complete b) → State.sameDecoderState s t) ∧
      ((∀ now, i ≠ .poll now) → t.lastKeepAliveTime = s.lastKeepAliveTime)
end

