-- ==== Sys2Proof/Laws/Memory.lean ====
section
/-! SUPPORT. Sys2Proof/Laws/Memory.lean: a read after a write, and that every memory operation keeps the canonical form
and the bound. -/

namespace Sys2Proof.Machine

theorem Memory.read_erase (m : Memory) (x y : Nat) :
    Memory.read (Memory.erase m x) y = if y = x then Memory.unlisted else Memory.read m y := by
  induction m with
  | nil => simp [Memory.erase, Memory.read]
  | cons c m ih =>
    obtain ⟨a, w⟩ := c
    by_cases h : a = x
    · subst h
      simp only [Memory.erase, List.filter_cons, bne_self_eq_false, Bool.false_eq_true, if_false,
        Memory.read] at ih ⊢
      rw [ih]
      by_cases hy : y = a
      · simp [hy]
      · simp [hy, Ne.symm hy]
    · simp only [Memory.erase, List.filter_cons, bne_iff_ne, ne_eq, h, not_false_eq_true, if_true,
        Memory.read] at ih ⊢
      rw [ih]
      by_cases hy : y = x
      · subst hy
        simp [h]
      · simp [hy]

/-- Inserting where no entry of that address stands. -/
theorem Memory.read_insert (m : Memory) (x : Nat) (v : Byte) (h : ∀ c ∈ m, c.1 ≠ x) (y : Nat) :
    Memory.read (Memory.insert m x v) y = if y = x then v else Memory.read m y := by
  induction m with
  | nil => simp [Memory.insert, Memory.read, eq_comm]
  | cons c m ih =>
    obtain ⟨a, w⟩ := c
    have hne : a ≠ x := h (a, w) (by simp)
    have ih := ih (fun c hc => h c (List.mem_cons_of_mem _ hc))
    simp only [Memory.insert]
    split
    · simp [Memory.read, eq_comm]
    · simp only [Memory.read, ih]
      by_cases hy : y = x
      · subst hy
        simp [hne]
      · simp [hy]

theorem Memory.mem_erase {m : Memory} {x : Nat} {c : Host.Cell} :
    c ∈ Memory.erase m x ↔ c ∈ m ∧ c.1 ≠ x := by
  simp [Memory.erase]

/-- A read after a write: the written byte at its address, every other address as before. -/
theorem Memory.read_write (m : Memory) (x : Nat) (v : Byte) (y : Nat) :
    Memory.read (Memory.write m x v) y = if y = x then v else Memory.read m y := by
  unfold Memory.write
  split
  · next h => rw [Memory.read_erase, h]
  · rw [Memory.read_insert _ _ _ (fun c hc => (Memory.mem_erase.mp hc).2), Memory.read_erase]
    split <;> rfl

@[simp] theorem Memory.read_write_same (m : Memory) (x : Nat) (v : Byte) :
    Memory.read (Memory.write m x v) x = v := by
  simp [Memory.read_write]

theorem Memory.read_write_ne (m : Memory) {x y : Nat} (v : Byte) (h : y ≠ x) :
    Memory.read (Memory.write m x v) y = Memory.read m y := by
  simp [Memory.read_write, h]

@[simp] theorem Memory.read_nil (x : Nat) : Memory.read [] x = Memory.unlisted := rfl

theorem Memory.mem_insert {m : Memory} {x : Nat} {v : Byte} {c : Host.Cell} :
    c ∈ Memory.insert m x v ↔ c = (x, v) ∨ c ∈ m := by
  induction m with
  | nil => simp [Memory.insert]
  | cons d m ih =>
    simp only [Memory.insert]
    split
    · simp
    · simp only [List.mem_cons, ih]
      tauto

theorem Memory.pairwise_insert {m : Memory} {x : Nat} {v : Byte} (hx : ∀ c ∈ m, c.1 ≠ x)
    (h : m.Pairwise (fun c d => c.1 < d.1)) : (Memory.insert m x v).Pairwise (fun c d => c.1 < d.1) := by
  induction m with
  | nil => simp [Memory.insert]
  | cons d m ih =>
    have hd := List.pairwise_cons.mp h
    simp only [Memory.insert]
    split
    · next hlt =>
      refine List.pairwise_cons.mpr ⟨fun c hc => ?_, h⟩
      rcases List.mem_cons.mp hc with rfl | hc
      · exact hlt
      · exact lt_trans hlt (hd.1 c hc)
    · next hge =>
      refine List.pairwise_cons.mpr ⟨fun c hc => ?_, ih (fun c hc => hx c (List.mem_cons_of_mem _ hc)) hd.2⟩
      rcases Memory.mem_insert.mp hc with rfl | hc
      · have hne : d.1 ≠ x := hx d (by simp)
        change d.1 < x
        omega
      · exact hd.1 c hc

theorem Memory.wf_nil : Memory.wf [] := ⟨List.Pairwise.nil, nofun⟩

theorem Memory.wf_erase {m : Memory} (h : Memory.wf m) (x : Nat) : Memory.wf (Memory.erase m x) :=
  ⟨h.1.filter _, fun c hc => h.2 c (Memory.mem_erase.mp hc).1⟩

/-- A write keeps the canonical form. -/
theorem Memory.wf_write {m : Memory} (h : Memory.wf m) (x : Nat) (v : Byte) : Memory.wf (Memory.write m x v) := by
  unfold Memory.write
  split
  · exact Memory.wf_erase h x
  · next hv =>
    have he := Memory.wf_erase h x
    refine ⟨Memory.pairwise_insert (fun c hc => (Memory.mem_erase.mp hc).2) he.1, fun c hc => ?_⟩
    rcases Memory.mem_insert.mp hc with rfl | hc
    · exact hv
    · exact he.2 c hc

/-- A write inside the bound keeps the bound. -/
theorem Memory.within_write {n : Nat} {m : Memory} (h : Memory.within n m) {x : Nat} (hx : x < n) (v : Byte) :
    Memory.within n (Memory.write m x v) := by
  intro c hc
  unfold Memory.write at hc
  split at hc
  · exact h c (Memory.mem_erase.mp hc).1
  · rcases Memory.mem_insert.mp hc with rfl | hc
    · exact hx
    · exact h c (Memory.mem_erase.mp hc).1

theorem Memory.mem_tabulate {n : Nat} {f : Nat → Byte} {c : Host.Cell} (h : c ∈ Memory.tabulate n f) :
    c.1 < n ∧ c.2 = f c.1 ∧ c.2 ≠ Memory.unlisted := by
  simp only [Memory.tabulate, List.mem_filterMap, List.mem_range] at h
  obtain ⟨a, ha, hc⟩ := h
  split at hc
  · cases hc
  · next hv =>
    cases hc
    exact ⟨ha, rfl, hv⟩

/-- A tabulated space is in canonical form. -/
theorem Memory.wf_tabulate (n : Nat) (f : Nat → Byte) : Memory.wf (Memory.tabulate n f) := by
  refine ⟨?_, fun c hc => (Memory.mem_tabulate hc).2.2⟩
  refine List.Pairwise.filterMap _ (fun a b hab c hc d hd => ?_) List.pairwise_lt_range
  split at hc <;> split at hd <;> simp_all
  rw [← hc, ← hd]
  exact hab

theorem Memory.within_tabulate (n : Nat) (f : Nat → Byte) : Memory.within n (Memory.tabulate n f) :=
  fun _ hc => (Memory.mem_tabulate hc).1

/-- Below every listed address a space reads as unlisted. -/
theorem Memory.read_of_lt {m : Memory} {x : Nat} (h : ∀ c ∈ m, x < c.1) : Memory.read m x = Memory.unlisted := by
  induction m with
  | nil => rfl
  | cons c m ih =>
    have hc : x < c.1 := h c (by simp)
    simp only [Memory.read, if_neg (Nat.ne_of_gt hc)]
    exact ih (fun d hd => h d (List.mem_cons_of_mem _ hd))

/-- Two spaces in canonical form that read the same everywhere are the same data. -/
theorem Memory.ext_of_wf {m n : Memory} (hm : Memory.wf m) (hn : Memory.wf n)
    (h : ∀ x, Memory.read m x = Memory.read n x) : m = n := by
  induction m generalizing n with
  | nil =>
    cases n with
    | nil => rfl
    | cons d n =>
      have := h d.1
      simp only [Memory.read, if_true] at this
      exact absurd this.symm (hn.2 d (by simp))
  | cons c m ih =>
    cases n with
    | nil =>
      have := h c.1
      simp only [Memory.read, if_true] at this
      exact absurd this (hm.2 c (by simp))
    | cons d n =>
      obtain ⟨hcm, hm'⟩ := List.pairwise_cons.mp hm.1
      obtain ⟨hdn, hn'⟩ := List.pairwise_cons.mp hn.1
      have hc0 := hm.2 c (by simp)
      have hd0 := hn.2 d (by simp)
      have key : c.1 = d.1 := by
        rcases lt_trichotomy c.1 d.1 with hlt | heq | hgt
        · have := h c.1
          rw [Memory.read_of_lt (m := d :: n)] at this
          · simp only [Memory.read, if_true] at this
            exact absurd this hc0
          · intro e he
            rcases List.mem_cons.mp he with rfl | he
            · exact hlt
            · exact lt_trans hlt (hdn e he)
        · exact heq
        · have := h d.1
          rw [Memory.read_of_lt (m := c :: m)] at this
          · simp only [Memory.read, if_true] at this
            exact absurd this.symm hd0
          · intro e he
            rcases List.mem_cons.mp he with rfl | he
            · exact hgt
            · exact lt_trans hgt (hcm e he)
      have hv : c.2 = d.2 := by
        have := h c.1
        simpa only [Memory.read, if_true, key] using this
      have hcd : c = d := Prod.ext key hv
      subst hcd
      congr 1
      refine ih ⟨hm', fun e he => hm.2 e (List.mem_cons_of_mem _ he)⟩
        ⟨hn', fun e he => hn.2 e (List.mem_cons_of_mem _ he)⟩ (fun x => ?_)
      by_cases hx : c.1 = x
      · subst hx
        rw [Memory.read_of_lt hcm, Memory.read_of_lt hdn]
      · have := h x
        simpa only [Memory.read, if_neg hx] using this

end Sys2Proof.Machine
end

