-- ==== Sys2Proof/Laws/State.lean ====
section
/-! SUPPORT. Sys2Proof/Laws/State.lean: one lemma per field per update of the state, each true by rfl, so that no later
proof unfolds a record update. -/

namespace Sys2Proof.Machine

section emit
variable (s : State) (x : OutItem)
@[simp] theorem State.emit_lastModifiers : (s.emit x).lastModifiers = s.lastModifiers := rfl
@[simp] theorem State.emit_lastKeySlot0 : (s.emit x).lastKeySlot0 = s.lastKeySlot0 := rfl
@[simp] theorem State.emit_lastKeySlot1 : (s.emit x).lastKeySlot1 = s.lastKeySlot1 := rfl
@[simp] theorem State.emit_peopleModeToggled : (s.emit x).peopleModeToggled = s.peopleModeToggled := rfl
@[simp] theorem State.emit_shiftToggled : (s.emit x).shiftToggled = s.shiftToggled := rfl
@[simp] theorem State.emit_lastKeepAliveTime : (s.emit x).lastKeepAliveTime = s.lastKeepAliveTime := rfl
@[simp] theorem State.emit_fsm : (s.emit x).fsm = s.fsm := rfl
@[simp] theorem State.emit_cnt : (s.emit x).cnt = s.cnt := rfl
@[simp] theorem State.emit_buf : (s.emit x).buf = s.buf := rfl
@[simp] theorem State.emit_t0 : (s.emit x).t0 = s.t0 := rfl
@[simp] theorem State.emit_rom : (s.emit x).rom = s.rom := rfl
@[simp] theorem State.emit_input : (s.emit x).input = s.input := rfl
@[simp] theorem State.emit_out : (s.emit x).out = s.out ++ [x] := rfl
@[simp] theorem State.emit_answer : (s.emit x).answer = s.answer := rfl
end emit

section emitAll
variable (s : State) (xs : List OutItem)
@[simp] theorem State.emitAll_lastModifiers : (s.emitAll xs).lastModifiers = s.lastModifiers := rfl
@[simp] theorem State.emitAll_lastKeySlot0 : (s.emitAll xs).lastKeySlot0 = s.lastKeySlot0 := rfl
@[simp] theorem State.emitAll_lastKeySlot1 : (s.emitAll xs).lastKeySlot1 = s.lastKeySlot1 := rfl
@[simp] theorem State.emitAll_peopleModeToggled : (s.emitAll xs).peopleModeToggled = s.peopleModeToggled := rfl
@[simp] theorem State.emitAll_shiftToggled : (s.emitAll xs).shiftToggled = s.shiftToggled := rfl
@[simp] theorem State.emitAll_lastKeepAliveTime : (s.emitAll xs).lastKeepAliveTime = s.lastKeepAliveTime := rfl
@[simp] theorem State.emitAll_fsm : (s.emitAll xs).fsm = s.fsm := rfl
@[simp] theorem State.emitAll_cnt : (s.emitAll xs).cnt = s.cnt := rfl
@[simp] theorem State.emitAll_buf : (s.emitAll xs).buf = s.buf := rfl
@[simp] theorem State.emitAll_t0 : (s.emitAll xs).t0 = s.t0 := rfl
@[simp] theorem State.emitAll_rom : (s.emitAll xs).rom = s.rom := rfl
@[simp] theorem State.emitAll_input : (s.emitAll xs).input = s.input := rfl
@[simp] theorem State.emitAll_out : (s.emitAll xs).out = s.out ++ xs := rfl
@[simp] theorem State.emitAll_answer : (s.emitAll xs).answer = s.answer := rfl
end emitAll

section collectAt
variable (s : State) (n : Count)
@[simp] theorem State.collectAt_lastModifiers : (s.collectAt n).lastModifiers = s.lastModifiers := rfl
@[simp] theorem State.collectAt_lastKeySlot0 : (s.collectAt n).lastKeySlot0 = s.lastKeySlot0 := rfl
@[simp] theorem State.collectAt_lastKeySlot1 : (s.collectAt n).lastKeySlot1 = s.lastKeySlot1 := rfl
@[simp] theorem State.collectAt_peopleModeToggled : (s.collectAt n).peopleModeToggled = s.peopleModeToggled := rfl
@[simp] theorem State.collectAt_shiftToggled : (s.collectAt n).shiftToggled = s.shiftToggled := rfl
@[simp] theorem State.collectAt_lastKeepAliveTime : (s.collectAt n).lastKeepAliveTime = s.lastKeepAliveTime := rfl
@[simp] theorem State.collectAt_fsm : (s.collectAt n).fsm = .collecting := rfl
@[simp] theorem State.collectAt_cnt : (s.collectAt n).cnt = n := rfl
@[simp] theorem State.collectAt_buf : (s.collectAt n).buf = s.buf := rfl
@[simp] theorem State.collectAt_t0 : (s.collectAt n).t0 = s.t0 := rfl
@[simp] theorem State.collectAt_rom : (s.collectAt n).rom = s.rom := rfl
@[simp] theorem State.collectAt_input : (s.collectAt n).input = s.input := rfl
@[simp] theorem State.collectAt_out : (s.collectAt n).out = s.out := rfl
@[simp] theorem State.collectAt_answer : (s.collectAt n).answer = s.answer := rfl
end collectAt

section returnToIdle
variable (s : State)
@[simp] theorem State.returnToIdle_lastModifiers : (s.returnToIdle).lastModifiers = s.lastModifiers := rfl
@[simp] theorem State.returnToIdle_lastKeySlot0 : (s.returnToIdle).lastKeySlot0 = s.lastKeySlot0 := rfl
@[simp] theorem State.returnToIdle_lastKeySlot1 : (s.returnToIdle).lastKeySlot1 = s.lastKeySlot1 := rfl
@[simp] theorem State.returnToIdle_peopleModeToggled : (s.returnToIdle).peopleModeToggled = s.peopleModeToggled := rfl
@[simp] theorem State.returnToIdle_shiftToggled : (s.returnToIdle).shiftToggled = s.shiftToggled := rfl
@[simp] theorem State.returnToIdle_lastKeepAliveTime : (s.returnToIdle).lastKeepAliveTime = s.lastKeepAliveTime := rfl
@[simp] theorem State.returnToIdle_fsm : (s.returnToIdle).fsm = .idle := rfl
@[simp] theorem State.returnToIdle_cnt : (s.returnToIdle).cnt = 0 := rfl
@[simp] theorem State.returnToIdle_buf : (s.returnToIdle).buf = s.buf := rfl
@[simp] theorem State.returnToIdle_t0 : (s.returnToIdle).t0 = s.t0 := rfl
@[simp] theorem State.returnToIdle_rom : (s.returnToIdle).rom = s.rom := rfl
@[simp] theorem State.returnToIdle_input : (s.returnToIdle).input = s.input := rfl
@[simp] theorem State.returnToIdle_out : (s.returnToIdle).out = s.out := rfl
@[simp] theorem State.returnToIdle_answer : (s.returnToIdle).answer = s.answer := rfl
end returnToIdle

section storeBuf
variable (s : State) (i : Nat) (b : Byte)
@[simp] theorem State.storeBuf_lastModifiers : (s.storeBuf i b).lastModifiers = s.lastModifiers := rfl
@[simp] theorem State.storeBuf_lastKeySlot0 : (s.storeBuf i b).lastKeySlot0 = s.lastKeySlot0 := rfl
@[simp] theorem State.storeBuf_lastKeySlot1 : (s.storeBuf i b).lastKeySlot1 = s.lastKeySlot1 := rfl
@[simp] theorem State.storeBuf_peopleModeToggled : (s.storeBuf i b).peopleModeToggled = s.peopleModeToggled := rfl
@[simp] theorem State.storeBuf_shiftToggled : (s.storeBuf i b).shiftToggled = s.shiftToggled := rfl
@[simp] theorem State.storeBuf_lastKeepAliveTime : (s.storeBuf i b).lastKeepAliveTime = s.lastKeepAliveTime := rfl
@[simp] theorem State.storeBuf_fsm : (s.storeBuf i b).fsm = s.fsm := rfl
@[simp] theorem State.storeBuf_cnt : (s.storeBuf i b).cnt = s.cnt := rfl
@[simp] theorem State.storeBuf_buf : (s.storeBuf i b).buf = Memory.write s.buf i b := rfl
@[simp] theorem State.storeBuf_t0 : (s.storeBuf i b).t0 = s.t0 := rfl
@[simp] theorem State.storeBuf_rom : (s.storeBuf i b).rom = s.rom := rfl
@[simp] theorem State.storeBuf_input : (s.storeBuf i b).input = s.input := rfl
@[simp] theorem State.storeBuf_out : (s.storeBuf i b).out = s.out := rfl
@[simp] theorem State.storeBuf_answer : (s.storeBuf i b).answer = s.answer := rfl
end storeBuf

section takeDiagnostic
variable (s : State) (k : DiagKind)
@[simp] theorem State.takeDiagnostic_lastModifiers : (s.takeDiagnostic k).lastModifiers = s.lastModifiers := rfl
@[simp] theorem State.takeDiagnostic_lastKeySlot0 : (s.takeDiagnostic k).lastKeySlot0 = s.lastKeySlot0 := rfl
@[simp] theorem State.takeDiagnostic_lastKeySlot1 : (s.takeDiagnostic k).lastKeySlot1 = s.lastKeySlot1 := rfl
@[simp] theorem State.takeDiagnostic_peopleModeToggled : (s.takeDiagnostic k).peopleModeToggled = s.peopleModeToggled := rfl
@[simp] theorem State.takeDiagnostic_shiftToggled : (s.takeDiagnostic k).shiftToggled = s.shiftToggled := rfl
@[simp] theorem State.takeDiagnostic_lastKeepAliveTime : (s.takeDiagnostic k).lastKeepAliveTime = s.lastKeepAliveTime := rfl
@[simp] theorem State.takeDiagnostic_fsm : (s.takeDiagnostic k).fsm = .idle := rfl
@[simp] theorem State.takeDiagnostic_cnt : (s.takeDiagnostic k).cnt = 0 := rfl
@[simp] theorem State.takeDiagnostic_buf : (s.takeDiagnostic k).buf = s.buf := rfl
@[simp] theorem State.takeDiagnostic_t0 : (s.takeDiagnostic k).t0 = s.t0 := rfl
@[simp] theorem State.takeDiagnostic_rom : (s.takeDiagnostic k).rom = s.rom := rfl
@[simp] theorem State.takeDiagnostic_input : (s.takeDiagnostic k).input = s.input := rfl
@[simp] theorem State.takeDiagnostic_out : (s.takeDiagnostic k).out = s.out ++ [.diag k] := rfl
@[simp] theorem State.takeDiagnostic_answer : (s.takeDiagnostic k).answer = s.answer := rfl
end takeDiagnostic

section reply
variable (s : State) (a : Answer)
@[simp] theorem State.reply_lastModifiers : (s.reply a).lastModifiers = s.lastModifiers := rfl
@[simp] theorem State.reply_lastKeySlot0 : (s.reply a).lastKeySlot0 = s.lastKeySlot0 := rfl
@[simp] theorem State.reply_lastKeySlot1 : (s.reply a).lastKeySlot1 = s.lastKeySlot1 := rfl
@[simp] theorem State.reply_peopleModeToggled : (s.reply a).peopleModeToggled = s.peopleModeToggled := rfl
@[simp] theorem State.reply_shiftToggled : (s.reply a).shiftToggled = s.shiftToggled := rfl
@[simp] theorem State.reply_lastKeepAliveTime : (s.reply a).lastKeepAliveTime = s.lastKeepAliveTime := rfl
@[simp] theorem State.reply_fsm : (s.reply a).fsm = s.fsm := rfl
@[simp] theorem State.reply_cnt : (s.reply a).cnt = s.cnt := rfl
@[simp] theorem State.reply_buf : (s.reply a).buf = s.buf := rfl
@[simp] theorem State.reply_t0 : (s.reply a).t0 = s.t0 := rfl
@[simp] theorem State.reply_rom : (s.reply a).rom = s.rom := rfl
@[simp] theorem State.reply_input : (s.reply a).input = s.input := rfl
@[simp] theorem State.reply_out : (s.reply a).out = s.out := rfl
@[simp] theorem State.reply_answer : (s.reply a).answer = some a := rfl
end reply

section beginStep
variable (s : State) (rest : List Stimulus)
@[simp] theorem State.beginStep_lastModifiers : (s.beginStep rest).lastModifiers = s.lastModifiers := rfl
@[simp] theorem State.beginStep_lastKeySlot0 : (s.beginStep rest).lastKeySlot0 = s.lastKeySlot0 := rfl
@[simp] theorem State.beginStep_lastKeySlot1 : (s.beginStep rest).lastKeySlot1 = s.lastKeySlot1 := rfl
@[simp] theorem State.beginStep_peopleModeToggled : (s.beginStep rest).peopleModeToggled = s.peopleModeToggled := rfl
@[simp] theorem State.beginStep_shiftToggled : (s.beginStep rest).shiftToggled = s.shiftToggled := rfl
@[simp] theorem State.beginStep_lastKeepAliveTime : (s.beginStep rest).lastKeepAliveTime = s.lastKeepAliveTime := rfl
@[simp] theorem State.beginStep_fsm : (s.beginStep rest).fsm = s.fsm := rfl
@[simp] theorem State.beginStep_cnt : (s.beginStep rest).cnt = s.cnt := rfl
@[simp] theorem State.beginStep_buf : (s.beginStep rest).buf = s.buf := rfl
@[simp] theorem State.beginStep_t0 : (s.beginStep rest).t0 = s.t0 := rfl
@[simp] theorem State.beginStep_rom : (s.beginStep rest).rom = s.rom := rfl
@[simp] theorem State.beginStep_input : (s.beginStep rest).input = rest := rfl
@[simp] theorem State.beginStep_out : (s.beginStep rest).out = [] := rfl
@[simp] theorem State.beginStep_answer : (s.beginStep rest).answer = none := rfl
end beginStep

section present
variable (s : State) (x : Stimulus)
@[simp] theorem State.present_lastModifiers : (s.present x).lastModifiers = s.lastModifiers := rfl
@[simp] theorem State.present_lastKeySlot0 : (s.present x).lastKeySlot0 = s.lastKeySlot0 := rfl
@[simp] theorem State.present_lastKeySlot1 : (s.present x).lastKeySlot1 = s.lastKeySlot1 := rfl
@[simp] theorem State.present_peopleModeToggled : (s.present x).peopleModeToggled = s.peopleModeToggled := rfl
@[simp] theorem State.present_shiftToggled : (s.present x).shiftToggled = s.shiftToggled := rfl
@[simp] theorem State.present_lastKeepAliveTime : (s.present x).lastKeepAliveTime = s.lastKeepAliveTime := rfl
@[simp] theorem State.present_fsm : (s.present x).fsm = s.fsm := rfl
@[simp] theorem State.present_cnt : (s.present x).cnt = s.cnt := rfl
@[simp] theorem State.present_buf : (s.present x).buf = s.buf := rfl
@[simp] theorem State.present_t0 : (s.present x).t0 = s.t0 := rfl
@[simp] theorem State.present_rom : (s.present x).rom = s.rom := rfl
@[simp] theorem State.present_input : (s.present x).input = x :: s.input := rfl
@[simp] theorem State.present_out : (s.present x).out = s.out := rfl
@[simp] theorem State.present_answer : (s.present x).answer = s.answer := rfl
end present

section modUpdate
variable (s : State) (m : Modifiers)
@[simp] theorem modUpdate_lastModifiers : (modUpdate m s).lastModifiers = m := rfl
@[simp] theorem modUpdate_lastKeySlot0 : (modUpdate m s).lastKeySlot0 = s.lastKeySlot0 := rfl
@[simp] theorem modUpdate_lastKeySlot1 : (modUpdate m s).lastKeySlot1 = s.lastKeySlot1 := rfl
@[simp] theorem modUpdate_peopleModeToggled : (modUpdate m s).peopleModeToggled = if peopleEdge m s.lastModifiers then !s.peopleModeToggled else s.peopleModeToggled := rfl
@[simp] theorem modUpdate_shiftToggled : (modUpdate m s).shiftToggled = if shiftGesture m then !s.shiftToggled else s.shiftToggled := rfl
@[simp] theorem modUpdate_lastKeepAliveTime : (modUpdate m s).lastKeepAliveTime = s.lastKeepAliveTime := rfl
@[simp] theorem modUpdate_fsm : (modUpdate m s).fsm = s.fsm := rfl
@[simp] theorem modUpdate_cnt : (modUpdate m s).cnt = s.cnt := rfl
@[simp] theorem modUpdate_buf : (modUpdate m s).buf = s.buf := rfl
@[simp] theorem modUpdate_t0 : (modUpdate m s).t0 = s.t0 := rfl
@[simp] theorem modUpdate_rom : (modUpdate m s).rom = s.rom := rfl
@[simp] theorem modUpdate_input : (modUpdate m s).input = s.input := rfl
@[simp] theorem modUpdate_out : (modUpdate m s).out = s.out := rfl
@[simp] theorem modUpdate_answer : (modUpdate m s).answer = s.answer := rfl
end modUpdate

section keyUpdate
variable (s : State) (a b : Byte)
@[simp] theorem keyUpdate_lastModifiers : (keyUpdate a b s).lastModifiers = s.lastModifiers := rfl
@[simp] theorem keyUpdate_lastKeySlot0 : (keyUpdate a b s).lastKeySlot0 = a := rfl
@[simp] theorem keyUpdate_lastKeySlot1 : (keyUpdate a b s).lastKeySlot1 = b := rfl
@[simp] theorem keyUpdate_peopleModeToggled : (keyUpdate a b s).peopleModeToggled = s.peopleModeToggled := rfl
@[simp] theorem keyUpdate_shiftToggled : (keyUpdate a b s).shiftToggled = s.shiftToggled := rfl
@[simp] theorem keyUpdate_lastKeepAliveTime : (keyUpdate a b s).lastKeepAliveTime = s.lastKeepAliveTime := rfl
@[simp] theorem keyUpdate_fsm : (keyUpdate a b s).fsm = s.fsm := rfl
@[simp] theorem keyUpdate_cnt : (keyUpdate a b s).cnt = s.cnt := rfl
@[simp] theorem keyUpdate_buf : (keyUpdate a b s).buf = s.buf := rfl
@[simp] theorem keyUpdate_t0 : (keyUpdate a b s).t0 = s.t0 := rfl
@[simp] theorem keyUpdate_rom : (keyUpdate a b s).rom = s.rom := rfl
@[simp] theorem keyUpdate_input : (keyUpdate a b s).input = s.input := rfl
@[simp] theorem keyUpdate_out : (keyUpdate a b s).out = s.out ++ keyEvents a b s.lastKeySlot0 s.lastKeySlot1 := rfl
@[simp] theorem keyUpdate_answer : (keyUpdate a b s).answer = s.answer := rfl
end keyUpdate

section startPacket
variable (s : State) (b : Byte)
@[simp] theorem startPacket_lastModifiers : (startPacket b s).lastModifiers = s.lastModifiers := rfl
@[simp] theorem startPacket_lastKeySlot0 : (startPacket b s).lastKeySlot0 = s.lastKeySlot0 := rfl
@[simp] theorem startPacket_lastKeySlot1 : (startPacket b s).lastKeySlot1 = s.lastKeySlot1 := rfl
@[simp] theorem startPacket_peopleModeToggled : (startPacket b s).peopleModeToggled = s.peopleModeToggled := rfl
@[simp] theorem startPacket_shiftToggled : (startPacket b s).shiftToggled = s.shiftToggled := rfl
@[simp] theorem startPacket_lastKeepAliveTime : (startPacket b s).lastKeepAliveTime = s.lastKeepAliveTime := rfl
@[simp] theorem startPacket_fsm : (startPacket b s).fsm = .collecting := rfl
@[simp] theorem startPacket_cnt : (startPacket b s).cnt = 1 := rfl
@[simp] theorem startPacket_buf : (startPacket b s).buf = Memory.write s.buf 0 b := rfl
@[simp] theorem startPacket_t0 : (startPacket b s).t0 = s.t0 := rfl
@[simp] theorem startPacket_rom : (startPacket b s).rom = s.rom := rfl
@[simp] theorem startPacket_input : (startPacket b s).input = s.input := rfl
@[simp] theorem startPacket_out : (startPacket b s).out = s.out := rfl
@[simp] theorem startPacket_answer : (startPacket b s).answer = s.answer := rfl
end startPacket

end Sys2Proof.Machine
end

