-- ==== Sys2Proof/Laws/Ops.lean ====
section
/-! SUPPORT. Sys2Proof/Laws/Ops.lean: what each shared operation and each meaning can do, said once: the answer of
every arm of `exec`, the four outcomes of `validate`, the events of `keyEvents`, the cases of a poll, and the cases of
a step. -/

namespace Sys2Proof.Machine

section Meanings
variable (s : State)

@[simp] theorem exec_startHb : exec .startHb s = .next (startPacket Const.startHeartbeat s) := rfl
@[simp] theorem exec_startKr : exec .startKr s = .next (startPacket Const.startKeyreport s) := rfl
@[simp] theorem exec_idleDiscard (b : Byte) : exec (.idleDiscard b) s = .next s := rfl
@[simp] theorem exec_collect (b : Byte) :
    exec (.collect b) s = .next { s.storeBuf s.cnt.toNat b with cnt := s.cnt + 1 } := rfl
@[simp] theorem exec_complete (b : Byte) :
    exec (.complete b) s = validate (packetInBuffer s.buf b) (s.storeBuf 7 b).returnToIdle := rfl
@[simp] theorem exec_heartbeat (p : Packet) : exec (.heartbeat p) s = .next s := rfl
@[simp] theorem exec_frameerr (p : Packet) : exec (.frameerr p) s = .next (s.takeDiagnostic .framing) := rfl
@[simp] theorem exec_ckerr (p : Packet) : exec (.ckerr p) s = .next (s.takeDiagnostic .checksum) := rfl
@[simp] theorem exec_keyreport (p : Packet) :
    exec (.keyreport p) s = .next (keyUpdate p.keyA p.keyB (modUpdate (modifiersOf p) s)) := rfl
@[simp] theorem exec_poll (now : Clock) : exec (.poll now) s = .next (keepAlive now s) := rfl
@[simp] theorem exec_translate (k : Byte) :
    exec (.translate k) s = .next (s.reply (.translate (translateKey k s))) := rfl
@[simp] theorem exec_status : exec .status s = .next (s.reply (.status (statusWord s))) := rfl
@[simp] theorem exec_initMsg : exec .initMsg s = .next (s.emit (.tx Const.initMsg)) := rfl
@[simp] theorem exec_kaMsg : exec .kaMsg s = .next (s.emit (.tx Const.kaMsg)) := rfl
@[simp] theorem exec_keyDown (c : Byte) : exec (.keyDown c) s = .next (emitKey c .down s) := rfl
@[simp] theorem exec_keyUp (c : Byte) : exec (.keyUp c) s = .next (emitKey c .up s) := rfl
@[simp] theorem exec_diagFraming : exec .diagFraming s = .next (s.emit (.diag .framing)) := rfl
@[simp] theorem exec_diagChecksum : exec .diagChecksum s = .next (s.emit (.diag .checksum)) := rfl

end Meanings

/-- What `Validate` answers: one of four states, each with the test that leads to it (R105). -/
theorem validate_cases (p : Packet) (s : State) :
    (p.start = Const.startHeartbeat ∧ validate p s = .next s) ∨
    (p.start ≠ Const.startHeartbeat ∧ p.hdr ≠ Const.header ∧ validate p s = .next (s.takeDiagnostic .framing)) ∨
    (p.start ≠ Const.startHeartbeat ∧ p.hdr = Const.header ∧ checksum p ≠ p.ck ∧
      validate p s = .next (s.takeDiagnostic .checksum)) ∨
    (p.start ≠ Const.startHeartbeat ∧ p.hdr = Const.header ∧ checksum p = p.ck ∧
      validate p s = .next (keyUpdate p.keyA p.keyB (modUpdate (modifiersOf p) s))) := by
  unfold validate execHeartbeat execFrameerr execCkerr execKeyreport
  by_cases h1 : p.start = Const.startHeartbeat
  · simp [h1]
  · by_cases h2 : p.hdr = Const.header
    · by_cases h3 : checksum p = p.ck <;> simp [h1, h2, h3]
    · simp [h1, h2]

/-- On a packet that has a class, `Validate` runs that class's meaning. -/
theorem validate_eq_exec {p : Packet} {i : Instr} (h : classifyPacket p = some i) (s : State) :
    validate p s = exec i s := by
  unfold classifyPacket at h
  unfold validate
  by_cases h1 : p.start = Const.startHeartbeat
  · rw [if_pos h1] at h ⊢
    cases h
    rfl
  · rw [if_neg h1] at h ⊢
    by_cases h2 : p.start = Const.startKeyreport
    · rw [if_pos h2] at h
      by_cases h3 : p.hdr ≠ Const.header
      · rw [if_pos h3] at h ⊢
        cases h
        rfl
      · rw [if_neg h3] at h ⊢
        by_cases h4 : checksum p ≠ p.ck
        · rw [if_pos h4] at h ⊢
          cases h
          rfl
        · rw [if_neg h4] at h ⊢
          cases h
          rfl
    · rw [if_neg h2] at h
      cases h

theorem mem_eventIf {t : Bool} {c : Byte} {d : Dir} {x : OutItem} :
    x ∈ eventIf t c d ↔ t = true ∧ x = .keyEvent c d := by
  cases t <;> simp [eventIf]

theorem length_eventIf (t : Bool) (c : Byte) (d : Dir) : (eventIf t c d).length ≤ 1 := by
  cases t <;> simp [eventIf]

/-- Every item of a packet's events is a key event of a code that passed its test. -/
theorem mem_keyEvents {a b p0 p1 : Byte} {x : OutItem} :
    x ∈ keyEvents a b p0 p1 ↔
      (isNewTo a p0 p1 = true ∧ x = .keyEvent a .down) ∨ (isNewTo b p0 p1 = true ∧ x = .keyEvent b .down) ∨
      (isNewTo p0 a b = true ∧ x = .keyEvent p0 .up) ∨ (isNewTo p1 a b = true ∧ x = .keyEvent p1 .up) := by
  simp only [keyEvents, List.mem_append, mem_eventIf]
  tauto

theorem isNewTo_iff {c x y : Byte} : isNewTo c x y = true ↔ c ≠ 0 ∧ c ≠ x ∧ c ≠ y := by
  simp [isNewTo, and_assoc]

/-- The two cases of a poll (R193). -/
theorem keepAlive_cases (now : Clock) (s : State) :
    (Const.kaPeriodMs < now - s.lastKeepAliveTime ∧
      keepAlive now s = { s.emit (.tx Const.kaMsg) with lastKeepAliveTime := now }) ∨
    (¬ Const.kaPeriodMs < now - s.lastKeepAliveTime ∧ keepAlive now s = s) := by
  unfold keepAlive keepAliveDue elapsed
  by_cases h : Const.kaPeriodMs < now - s.lastKeepAliveTime <;> simp [h]

/-- A step without a stimulus holds the state (R186, R201). -/
theorem step_of_no_input {s : State} (h : s.input = []) : step s = .next (s.beginStep []) := by
  unfold step
  rw [h]

/-- A step with a stimulus is `exec` of the decoded stimulus. -/
theorem step_of_input {s : State} {x : Stimulus} {rest : List Stimulus} (h : s.input = x :: rest) :
    step s = exec (decodeStimulus s.fsm s.cnt x) (s.beginStep rest) := by
  unfold step
  rw [h]

/-- What a step can be: it held the state, or it ran the instruction of the next stimulus. -/
theorem step_cases {s t : State} (h : step s = .next t) :
    (s.input = [] ∧ t = s.beginStep []) ∨
    ∃ x rest, s.input = x :: rest ∧ exec (decodeStimulus s.fsm s.cnt x) (s.beginStep rest) = .next t := by
  rcases hin : s.input with _ | ⟨x, rest⟩
  · rw [step_of_no_input hin] at h
    cases h
    exact .inl ⟨rfl, rfl⟩
  · rw [step_of_input hin] at h
    exact .inr ⟨x, rest, rfl, h⟩

/-- The class of a byte, case by case (R100). -/
theorem classifyByte_cases (fsm : Fsm) (cnt : Count) (b : Byte) :
    (fsm = .idle ∧ b = Const.startHeartbeat ∧ classifyByte fsm cnt b = .startHb) ∨
    (fsm = .idle ∧ b = Const.startKeyreport ∧ classifyByte fsm cnt b = .startKr) ∨
    (fsm = .idle ∧ b ≠ Const.startHeartbeat ∧ b ≠ Const.startKeyreport ∧
      classifyByte fsm cnt b = .idleDiscard b) ∨
    (fsm = .collecting ∧ cnt.toNat < 7 ∧ classifyByte fsm cnt b = .collect b) ∨
    (fsm = .collecting ∧ cnt.toNat = 7 ∧ classifyByte fsm cnt b = .complete b) := by
  unfold classifyByte
  cases fsm
  · by_cases h1 : b = Const.startHeartbeat
    · simp [h1]
    · by_cases h2 : b = Const.startKeyreport
      · have h3 : Const.startKeyreport ≠ Const.startHeartbeat := by decide
        simp [h2, h3]
      · simp [h1, h2]
  · by_cases h : cnt.toNat < 7
    · simp [h]
    · have : cnt.toNat = 7 := by omega
      simp [this]

/-- What the class of an inbound byte can do to the keep-alive unit: nothing. It completes, keeps the timestamp, `T0` and
the stimuli that remain, and sends no message that was not on the list (R196). -/
theorem exec_byte_keepAlive (b : Byte) (fsm : Fsm) (cnt : Count) (s : State) :
    ∃ t, exec (classifyByte fsm cnt b) s = .next t ∧ t.lastKeepAliveTime = s.lastKeepAliveTime ∧ t.t0 = s.t0 ∧
      t.input = s.input ∧ ∀ m, .tx m ∈ t.out → .tx m ∈ s.out := by
  rcases classifyByte_cases fsm cnt b with ⟨-, -, hc⟩ | ⟨-, -, hc⟩ | ⟨-, -, -, hc⟩ | ⟨-, -, hc⟩ | ⟨-, -, hc⟩ <;> rw [hc]
  · exact ⟨_, rfl, rfl, rfl, rfl, fun _ h => h⟩
  · exact ⟨_, rfl, rfl, rfl, rfl, fun _ h => h⟩
  · exact ⟨_, rfl, rfl, rfl, rfl, fun _ h => h⟩
  · exact ⟨_, rfl, rfl, rfl, rfl, fun _ h => h⟩
  · rw [exec_complete]
    rcases validate_cases (packetInBuffer s.buf b) (s.storeBuf 7 b).returnToIdle with
      ⟨-, e⟩ | ⟨-, -, e⟩ | ⟨-, -, -, e⟩ | ⟨-, -, -, e⟩ <;> rw [e]
    · exact ⟨_, rfl, rfl, rfl, rfl, fun _ h => h⟩
    · exact ⟨_, rfl, rfl, rfl, rfl, by simp⟩
    · exact ⟨_, rfl, rfl, rfl, rfl, by simp⟩
    · exact ⟨_, rfl, rfl, rfl, rfl, by simp [mem_keyEvents]⟩

/-- The class of a packet is one of the four rows, on that packet (R82). -/
theorem classifyPacket_cases {p : Packet} {i : Instr} (h : classifyPacket p = some i) :
    i = .heartbeat p ∨ i = .frameerr p ∨ i = .ckerr p ∨ i = .keyreport p := by
  unfold classifyPacket at h
  split at h
  · cases h
    simp
  · split at h
    · split at h
      · cases h
        simp
      · split at h <;> cases h <;> simp
    · cases h

/-- The checksum as a number (R110). -/
theorem checksum_toNat (p : Packet) :
    (checksum p).toNat = (256 - (p.start.toNat + p.hdr.toNat + p.rsv2.toNat + p.mod.toNat + p.keyA.toNat +
      p.keyB.toNat + p.rsv6.toNat) % 256) % 256 := by
  have := p.start.isLt
  simp only [checksum, neg8, BitVec.toNat_neg, BitVec.toNat_add]
  omega

theorem modifiersOf_eq (p : Packet) : modifiersOf p = p.mod.setWidth 4 := by
  unfold modifiersOf
  apply BitVec.eq_of_getLsbD_eq
  intro i hi
  simp [hi]

theorem getLsbD_modifiersOf (p : Packet) {i : Nat} (hi : i < 4) : (modifiersOf p).getLsbD i = p.mod.getLsbD i := by
  rw [modifiersOf_eq]
  simp [hi]

/-- The People edge of a packet, in its two bits (R122). -/
theorem peopleEdge_modifiersOf (p : Packet) (m : Modifiers) :
    peopleEdge (modifiersOf p) m = (p.mod.getLsbD 3 && !m.getLsbD 3) := by
  unfold peopleEdge changes Const.modPeople
  rw [BitVec.getLsbD_xor, getLsbD_modifiersOf _ (by omega)]
  cases p.mod.getLsbD 3 <;> cases m.getLsbD 3 <;> rfl

/-- The Shift gesture of a packet, in its two bits (R123). -/
theorem shiftGesture_modifiersOf (p : Packet) :
    shiftGesture (modifiersOf p) = (p.mod.getLsbD 0 && p.mod.getLsbD 2) := by
  unfold shiftGesture Const.modShift Const.modOrange
  rw [getLsbD_modifiersOf _ (by omega), getLsbD_modifiersOf _ (by omega)]

end Sys2Proof.Machine
end

