-- ==== Sys2Proof/Laws/Encoding.lean ====
section
/-! SUPPORT. Sys2Proof/Laws/Encoding.lean: the packing of a packet into its 64-bit value and back, and the bound of a
packed byte string. -/

namespace Sys2Proof.Machine

theorem bytesWord_append_one (bs : List Byte) (b : Byte) :
    bytesWord (bs ++ [b]) = bytesWord bs * 256 + b.toNat := by
  simp [bytesWord]

theorem bytesWord_lt (bs : List Byte) : bytesWord bs < 256 ^ bs.length := by
  induction bs using List.reverseRecOn with
  | nil => simp [bytesWord]
  | append_singleton bs b ih =>
    rw [bytesWord_append_one, List.length_append, List.length_singleton, pow_succ]
    have := b.isLt
    omega

theorem packetWord_lt (p : Packet) : packetWord p < 2 ^ 64 := by
  have h := bytesWord_lt p.bytes
  have hl : p.bytes.length = 8 := rfl
  rw [hl] at h
  norm_num at h ⊢
  exact h

theorem packetOfWord_packetWord (p : Packet) : packetOfWord (packetWord p) = p := by
  obtain ⟨a, b, c, d, e, f, g, h⟩ := p
  have := a.isLt; have := b.isLt; have := c.isLt; have := d.isLt
  have := e.isLt; have := f.isLt; have := g.isLt; have := h.isLt
  simp only [packetOfWord, packetWord, bytesWord, Packet.bytes, List.foldl, Packet.mk.injEq]
  refine ⟨?_, ?_, ?_, ?_, ?_, ?_, ?_, ?_⟩ <;>
  · apply BitVec.eq_of_toNat_eq
    simp only [BitVec.toNat_ofNat]
    omega

theorem packetWord_packetOfWord {w : Nat} (h : w < 2 ^ 64) : packetWord (packetOfWord w) = w := by
  simp only [packetOfWord, packetWord, bytesWord, Packet.bytes, List.foldl, BitVec.toNat_ofNat]
  omega

end Sys2Proof.Machine
end

