-- ==== Sys2Proof/Laws/PerInstr.lean ====
section
/-! SUPPORT. Sys2Proof/Laws/PerInstr.lean: the statements made per instruction. `EncodeFits`: the encoder writes a
value that fits the row's format. -/

namespace Sys2Proof.Laws.EncodeFits

/-- The encoded value has no bit above the format's width. -/
def Statement (i : Instr) : Prop := encode i < 2 ^ i.format.width

theorem reset : Statement .reset := by unfold Statement; decide
theorem startHb : Statement .startHb := by unfold Statement; decide
theorem startKr : Statement .startKr := by unfold Statement; decide
theorem idleDiscard (b : Byte) : Statement (.idleDiscard b) := b.isLt
theorem collect (b : Byte) : Statement (.collect b) := b.isLt
theorem complete (b : Byte) : Statement (.complete b) := b.isLt
theorem heartbeat (p : Packet) : Statement (.heartbeat p) := Machine.packetWord_lt p
theorem frameerr (p : Packet) : Statement (.frameerr p) := Machine.packetWord_lt p
theorem ckerr (p : Packet) : Statement (.ckerr p) := Machine.packetWord_lt p
theorem keyreport (p : Packet) : Statement (.keyreport p) := Machine.packetWord_lt p
theorem poll (now : Clock) : Statement (.poll now) := now.isLt
theorem translate (k : Byte) : Statement (.translate k) := k.isLt
theorem status : Statement .status := by unfold Statement; decide
theorem initMsg : Statement .initMsg := by unfold Statement; decide
theorem kaMsg : Statement .kaMsg := by unfold Statement; decide
theorem keyDown (code : Byte) : Statement (.keyDown code) := (Machine.ev9 code .down).isLt
theorem keyUp (code : Byte) : Statement (.keyUp code) := (Machine.ev9 code .up).isLt
theorem diagFraming : Statement .diagFraming := by unfold Statement; decide
theorem diagChecksum : Statement .diagChecksum := by unfold Statement; decide

end Sys2Proof.Laws.EncodeFits
end

