-- ==== Sys2Proof/Tests/Slice0.lean ====
section
/-! SUPPORT. Sys2Proof/Tests/Slice0.lean: the model's own tests. Expected values come from spec/30_encoding.md (words)
and spec/95_test_vectors.md (effects; the vector is named at each test), never from the model. The last part shows, for
each obligation with hypotheses, a state and operands that meet them. -/

namespace Sys2Proof.Tests
open Sys2Proof.Machine

/-- The reset state with blank tables and nothing emitted, so that every test evaluates. -/
def start : State := { State.reset with rom := [], out := [] }

/-- The state after an outcome, if it is a next state. -/
def after : Host.Outcome State Fault Refusal → Option State
  | .next t => some t
  | .fault _ => none
  | .refused _ => none

/-- KR 0, 17, 0 (FR4). -/
def press17 : Packet := ⟨0xB4, 0xC5, 0x00, 0x00, 0x17, 0x00, 0x00, 0x70⟩
/-- HB FF, FF, FF, FF, FF, FF, FF (FR13). -/
def heartbeatFF : Packet := ⟨0xA5, 0xFF, 0xFF, 0xFF, 0xFF, 0xFF, 0xFF, 0xFF⟩
/-- KRHDR C4, 0, 17, 0 (FR9): a right checksum over a wrong header. -/
def wrongHeader : Packet := ⟨0xB4, 0xC4, 0x00, 0x00, 0x17, 0x00, 0x00, 0x71⟩
/-- FR8: the checksum is off by one. -/
def wrongChecksum : Packet := ⟨0xB4, 0xC5, 0x00, 0x00, 0x17, 0x00, 0x00, 0x71⟩
/-- KR 0, 42, 55 (KS8): `B4 C5 00 00 42 55 00 F0`. -/
def rollover : Packet := ⟨0xB4, 0xC5, 0x00, 0x00, 0x42, 0x55, 0x00, 0xF0⟩
/-- MODS D (MOD4): `B4 C5 00 0D 00 00 00 7A`. -/
def modsD : Packet := ⟨0xB4, 0xC5, 0x00, 0x0D, 0x00, 0x00, 0x00, 0x7A⟩
/-- MODS 8: `B4 C5 00 08 00 00 00 7F` (MOD1). -/
def mods8 : Packet := ⟨0xB4, 0xC5, 0x00, 0x08, 0x00, 0x00, 0x00, 0x7F⟩
/-- RELEASE: `B4 C5 00 00 00 00 00 87`. -/
def release : Packet := ⟨0xB4, 0xC5, 0x00, 0x00, 0x00, 0x00, 0x00, 0x87⟩

/-! ### WellFormed refuses an ill-formed term of each check -/

theorem test_wf_idleDiscard_marker : (Instr.idleDiscard 0xA5).wf = false ∧ (Instr.idleDiscard 0xB4).wf = false := by
  decide
theorem test_wf_heartbeat_start : (Instr.heartbeat press17).wf = false := by decide
theorem test_wf_frameerr : (Instr.frameerr press17).wf = false ∧ (Instr.frameerr heartbeatFF).wf = false := by decide
theorem test_wf_ckerr_right_checksum : (Instr.ckerr press17).wf = false := by decide
theorem test_wf_ckerr_wrong_header : (Instr.ckerr wrongHeader).wf = false ∧ (Instr.ckerr heartbeatFF).wf = false := by
  decide
theorem test_wf_keyreport_wrong_checksum : (Instr.keyreport wrongChecksum).wf = false := by decide
theorem test_wf_keyreport_wrong_header :
    (Instr.keyreport wrongHeader).wf = false ∧ (Instr.keyreport heartbeatFF).wf = false := by decide
theorem test_wf_event_code_zero : (Instr.keyDown 0).wf = false ∧ (Instr.keyUp 0).wf = false := by decide

/-! ### Decoding: words written out from spec/30_encoding.md, one for each constructor -/

theorem test_decode_reset : decode .rst1 .idle 0 0b1 = .ok .reset := by decide
theorem test_decode_startHb : decode .rx8 .idle 0 0b10100101 = .ok .startHb := by decide
theorem test_decode_startKr : decode .rx8 .idle 0 0b10110100 = .ok .startKr := by decide
theorem test_decode_idleDiscard : decode .rx8 .idle 0 0b11000101 = .ok (.idleDiscard 0xC5) := by decide
/-- R80: a marker value is payload while `Collecting`. -/
theorem test_decode_collect : decode .rx8 .collecting 6 0b10100101 = .ok (.collect 0xA5) := by decide
theorem test_decode_complete : decode .rx8 .collecting 7 0b10110100 = .ok (.complete 0xB4) := by decide
theorem test_decode_heartbeat :
    decode .pkt64 .idle 0 0xA5C5000000000096 = .ok (.heartbeat ⟨0xA5, 0xC5, 0, 0, 0, 0, 0, 0x96⟩) := by decide
theorem test_decode_frameerr : decode .pkt64 .idle 0 0xB4C4000017000071 = .ok (.frameerr wrongHeader) := by decide
theorem test_decode_ckerr : decode .pkt64 .idle 0 0xB4C5000017000071 = .ok (.ckerr wrongChecksum) := by decide
theorem test_decode_keyreport : decode .pkt64 .idle 0 0xB4C5000017000070 = .ok (.keyreport press17) := by decide
/-- FR6: a checksum of `00` is an ordinary value. -/
theorem test_decode_keyreport_checksum_zero :
    decode .pkt64 .idle 0 0xB4C5000043440000 = .ok (.keyreport ⟨0xB4, 0xC5, 0, 0, 0x43, 0x44, 0, 0⟩) := by decide
theorem test_decode_poll : decode .poll32 .collecting 3 0x000003E9 = .ok (.poll 1001) := by decide
theorem test_decode_translate : decode .kc8 .idle 0 0b00110101 = .ok (.translate 0x35) := by decide
theorem test_decode_status : decode .st5 .idle 0 0 = .ok .status := by decide
theorem test_decode_initMsg : decode .tx40 .idle 0 0x87028C1FCC = .ok .initMsg := by decide
theorem test_decode_kaMsg : decode .tx40 .idle 0 0x87028C1BD0 = .ok .kaMsg := by decide
theorem test_decode_keyDown : decode .ev9 .idle 0 0b100010111 = .ok (.keyDown 0x17) := by decide
theorem test_decode_keyUp : decode .ev9 .idle 0 0b000100001 = .ok (.keyUp 0x21) := by decide
theorem test_decode_diagFraming : decode .dg2 .idle 0 0b01 = .ok .diagFraming := by decide
theorem test_decode_diagChecksum : decode .dg2 .idle 0 0b10 = .ok .diagChecksum := by decide

theorem test_decode_rejects_by_name :
    decode .rst1 .idle 0 0 = .error .noResetRequest ∧ decode .rx8 .idle 0 256 = .error .tooWide ∧
      decode .pkt64 .idle 0 0x00C5000017000070 = .error .noStartMarker ∧
      decode .tx40 .idle 0 0x87028C1FCD = .error .noSuchMessage ∧
      decode .ev9 .idle 0 0b100000000 = .error .eventCodeZero ∧ decode .dg2 .idle 0 0 = .error .neverProduced ∧
      decodeBytes .pkt64 .idle 0 [0xB4] = .error .wrongLength := by decide

/-- R70: the bytes in order of arrival are the packet. -/
theorem test_decodeBytes :
    decodeBytes .pkt64 .idle 0 [0xB4, 0xC5, 0x00, 0x00, 0x17, 0x00, 0x00, 0x70] = .ok (.keyreport press17) := by decide

/-- Log entry 6: words of the opcode table without their port. -/
theorem test_decodeTableWord :
    decodeTableWord 1 1 = some .reset ∧ decodeTableWord 8 0xB4 = some .startKr ∧
      decodeTableWord 64 0xB4C5000017000070 = some (.keyreport press17) ∧
      decodeTableWord 40 0x87028C1BD0 = some .kaMsg ∧ decodeTableWord 32 5 = some (.poll 5) := by decide

/-- Log entry 6: the word placed after reset is what the next step runs (FR4). -/
theorem test_withFetchWord_packet :
    (after (step (State.reset.withFetchWord 64 0xB4C5000017000070))).map (fun t => (t.out, t.lastKeySlot0)) =
      some ([.keyEvent 0x17 .down], 0x17) := by decide
theorem test_withFetchWord_event :
    (after (step (State.reset.withFetchWord 9 0b000100001))).map (·.out) = some [.keyEvent 0x21 .up] := by decide

/-! ### Effects, from spec/95_test_vectors.md -/

/-- The start of RS2, with another `T0`. -/
def midPacket : State := { start.collectAt 3 with lastModifiers := 8, peopleModeToggled := true, t0 := 7 }

/-- RS2: the sequencer, the registers and the message. -/
theorem test_reset_in_mid_packet :
    (after (exec .reset midPacket)).map (fun t => (t.fsm, t.cnt, t.lastModifiers, t.out)) =
        some (.idle, 0, 0, [.tx [0x87, 0x02, 0x8C, 0x1F, 0xCC]]) ∧
      (after (exec .reset midPacket)).map (fun t => (t.peopleModeToggled, t.lastKeepAliveTime)) =
        some (false, 7) := by decide
/-- R101's example. -/
theorem test_startHb :
    (after (exec .startHb start)).map (fun t => (t.fsm, t.cnt, Memory.read t.buf 0)) =
      some (.collecting, 1, 0xA5) := by decide
/-- FR2. -/
theorem test_startKr :
    (after (step { start with input := [.byte 0xB4] })).map (fun t => (t.fsm, t.cnt, Memory.read t.buf 0, t.out)) =
      some (.collecting, 1, 0xB4, []) := by decide
/-- R102's example: `C5` in `Idle` leaves every element unchanged. -/
theorem test_idleDiscard : after (step { start with input := [.byte 0xC5] }) = some start := by decide
/-- R103's example. -/
theorem test_collect :
    (after (exec (.collect 0x05) { start with fsm := .collecting, cnt := 3 })).map
      (fun t => (t.fsm, t.cnt, Memory.read t.buf 3)) = some (.collecting, 4, 0x05) := by decide
/-- R112: a marker value is payload. -/
theorem test_collect_marker :
    (after (step { start with fsm := .collecting, cnt := 1, buf := [(0, 0xB4)], input := [.byte 0xB4] })).map
      (fun t => (t.fsm, t.cnt, t.buf)) = some (.collecting, 2, [(0, 0xB4), (1, 0xB4)]) := by decide
/-- FR4's eighth byte. -/
theorem test_complete :
    (after (step (start.presentPacket press17))).map (fun t => (t.fsm, t.cnt, Memory.read t.buf 7, t.out)) =
      some (.idle, 0, 0x70, [.keyEvent 0x17 .down]) := by decide
/-- FR17: the packet `B4 B4 C5 00 00 00 00 00`. -/
theorem test_complete_misaligned :
    (after (step (start.presentPacket ⟨0xB4, 0xB4, 0xC5, 0, 0, 0, 0, 0⟩))).map (fun t => (t.fsm, t.out)) =
      some (.idle, [.diag .framing]) := by decide
/-- FR13. -/
theorem test_heartbeat : after (exec (.heartbeat heartbeatFF) start) = some start := by decide
/-- FR9. -/
theorem test_frameerr :
    (after (exec (.frameerr wrongHeader) start)).map (fun t => (t.out, t.lastKeySlot0)) =
      some ([.diag .framing], 0) := by decide
/-- FR8. -/
theorem test_ckerr :
    (after (exec (.ckerr wrongChecksum) start)).map (fun t => (t.out, t.lastKeySlot0)) =
      some ([.diag .checksum], 0) := by decide
/-- KS8: previous slots `(17, 21)`, new slots `(42, 55)`. -/
theorem test_keyreport_rollover :
    (after (exec (.keyreport rollover) { start with lastKeySlot0 := 0x17, lastKeySlot1 := 0x21 })).map
      (fun t => (t.out, t.lastKeySlot0, t.lastKeySlot1)) =
      some ([.keyEvent 0x42 .down, .keyEvent 0x55 .down, .keyEvent 0x17 .up, .keyEvent 0x21 .up], 0x42, 0x55) := by
  decide
/-- MOD4: both flags flip in one packet. -/
theorem test_keyreport_modifiers :
    (after (exec (.keyreport modsD) start)).map
      (fun t => (t.lastModifiers, t.peopleModeToggled, t.shiftToggled, t.out)) = some (0b1101, true, true, []) := by
  decide
/-- KA2 and KA3. -/
theorem test_poll_threshold :
    (after (exec (.poll 1000) start)).map (·.out) = some [] ∧
      (after (exec (.poll 1001) start)).map (fun t => (t.out, t.lastKeepAliveTime)) =
        some ([.tx [0x87, 0x02, 0x8C, 0x1B, 0xD0]], 1001) := by decide
/-- KA9 and KA10: the clock has wrapped. -/
theorem test_poll_wrap :
    (after (exec (.poll 0x000002E8) { start with lastKeepAliveTime := 0xFFFFFF00 })).map (·.lastKeepAliveTime) =
        some 0xFFFFFF00 ∧
      (after (exec (.poll 0x000002E9) { start with lastKeepAliveTime := 0xFFFFFF00 })).map (·.lastKeepAliveTime) =
        some 0x000002E9 := by decide
/-- Entry 20 of the Orange table is `o`, of the People table `p`; every other entry is blank. -/
def tables : State := { start with rom := [(romAddress .orange 20, 0x6F), (romAddress .people 20, 0x70)] }

/-- TR9 and TR6: entry 20 of the People and of the Orange table. -/
theorem test_translate_select :
    (after (exec (.translate 0x35) { tables with lastModifiers := 1, peopleModeToggled := true })).map (·.answer) =
        some (some (.translate (.char 0x70))) ∧
      (after (exec (.translate 0x35) { tables with lastModifiers := 4 })).map (·.answer) =
        some (some (.translate (.char 0x6F))) := by decide
/-- TR27 (`81`, the first out of bounds), TR28 (`90`), and the blank entry. -/
theorem test_translate_no_mapping :
    (after (exec (.translate 0x81) { start with rom := [(56, 0x73)] })).map (·.answer) =
        some (some (.translate .noMapping)) ∧
      (after (exec (.translate 0x90) start)).map (·.answer) = some (some (.translate .noMapping)) ∧
      (after (exec (.translate 0x35) start)).map (·.answer) = some (some (.translate .noMapping)) := by decide
/-- TR8. -/
theorem test_status :
    (after (exec .status { start with lastModifiers := 0b0111, shiftToggled := true })).map (·.answer) =
      some (some (.status 0b00111)) := by decide
/-- TR11: the raw People bit is not People mode. -/
theorem test_status_people :
    (after (exec .status { start with lastModifiers := 0b1000 })).map (·.answer) = some (some (.status 0b01000)) := by
  decide
/-- S1. -/
theorem test_messages :
    (after (exec .initMsg start)).map (·.out) = some [.tx [0x87, 0x02, 0x8C, 0x1F, 0xCC]] ∧
      (after (exec .kaMsg start)).map (·.out) = some [.tx [0x87, 0x02, 0x8C, 0x1B, 0xD0]] := by decide
theorem test_keyDown_keyUp :
    (after (exec (.keyDown 0x17) start)).map (·.out) = some [.keyEvent 0x17 .down] ∧
      (after (exec (.keyUp 0x21) { start with out := [.keyEvent 0x17 .down] })).map (·.out) =
        some [.keyEvent 0x17 .down, .keyEvent 0x21 .up] := by decide
theorem test_diagnostics :
    (after (exec .diagFraming start)).map (·.out) = some [.diag .framing] ∧
      (after (exec .diagChecksum start)).map (·.out) = some [.diag .checksum] := by decide

/-- Rows of spec/43_translator.md section 4: TR15, TR18, TR24, TR31, TR30, TR33. -/
theorem test_tableIndex :
    tableIndex 0x11 = 0 ∧ tableIndex 0x19 = 0 ∧ tableIndex 0x78 = 55 ∧ tableIndex 0x00 = 55 ∧ tableIndex 0xFF = 54 ∧
      tableIndex 0x10 = 63 := by decide
/-- S3's instances. -/
theorem test_checksum :
    checksum ⟨0xB4, 0xC5, 0x5A, 0x00, 0x17, 0x00, 0xC3, 0⟩ = 0x53 ∧
      checksum ⟨0xFF, 0xFF, 0xFF, 0xFF, 0xFF, 0xFF, 0xFF, 0⟩ = 0x07 := by decide
/-- R86, R168: the packings of an event and of a translation result. -/
theorem test_packings : ev9 0x17 .down = 0b100010111 ∧ ch9 (.char 0x61) = 0b101100001 ∧ ch9 .noMapping = 0 := by decide
/-- The canonical form: a written unlisted value leaves no entry. -/
theorem test_memory_canonical :
    Memory.write (Memory.write [(0, 0xB4), (5, 1)] 3 7) 5 0 = [(0, 0xB4), (3, 7)] := by decide

/-! ### Witnesses: a state and operands that meet the hypotheses of each obligation -/

theorem start_inv : start.Inv :=
  { sequencer := by decide
    marker := by decide
    bufCanonical := by decide
    bufBound := by decide
    romCanonical := by decide
    romBound := by decide
    outLegal := nofun }

/-- A state with a packet whose eighth byte is presented meets the invariant. -/
theorem press17_inv : (start.presentPacket press17).Inv :=
  { sequencer := by decide
    marker := by decide
    bufCanonical := by decide
    bufBound := by decide
    romCanonical := by decide
    romBound := by decide
    outLegal := nofun }

theorem witness_EncodedInstructionDecodesBack :
    ((Instr.idleDiscard 0xB5).wf = true ∧ (Instr.idleDiscard 0xB5).decodedIn .idle 0 = true) ∧
      ((Instr.collect 0xB4).wf = true ∧ (Instr.collect 0xB4).decodedIn .collecting 1 = true ∧
        (Instr.collect 0xB4).decodedIn .collecting 6 = true) ∧
      ((Instr.complete 0xFF).wf = true ∧ (Instr.complete 0xFF).decodedIn .collecting 7 = true) ∧
      ((Instr.keyUp 1).wf = true ∧ (Instr.keyUp 0xFF).wf = true ∧ (Instr.keyUp 1).decodedIn .idle 0 = true) ∧
      ((Instr.heartbeat heartbeatFF).wf = true ∧ (Instr.frameerr wrongHeader).wf = true ∧
        (Instr.ckerr wrongChecksum).wf = true ∧ (Instr.keyreport press17).wf = true) := by decide

theorem witness_DecodedWordIsWellFormedAndUnique :
    decode .ev9 .collecting 1 0b111111111 = .ok (.keyDown 0xFF) ∧ (Fsm.collecting = .idle ↔ (1 : Count) = 0) ∧
      decode .rx8 .idle 0 0xFF = .ok (.idleDiscard 0xFF) ∧ (Fsm.idle = .idle ↔ (0 : Count) = 0) ∧
      Format.ev9 ≠ .st5 := by decide

theorem witness_PacketBytesDecodeToTheirClass :
    classifyPacket release = some (.keyreport release) ∧ classifyPacket heartbeatFF = some (.heartbeat heartbeatFF) := by
  decide

theorem witness_PacketClassesFollowTheTestOrder : heartbeatFF.start = 0xA5 ∧ press17.start = 0xB4 := by decide

theorem witness_ByteClassFollowsTheSequencer :
    ((0xA4 : Byte) ≠ 0xA5 ∧ (0xA4 : Byte) ≠ 0xB4) ∧ ((0xB5 : Byte) ≠ 0xA5 ∧ (0xB5 : Byte) ≠ 0xB4) ∧
      (1 ≤ (1 : Count).toNat ∧ (1 : Count).toNat ≤ 6) ∧ (1 ≤ (6 : Count).toNat ∧ (6 : Count).toNat ≤ 6) := by decide

theorem witness_StepRunsTheDecodedStimulus :
    start.input = [] ∧ decode .rst1 start.fsm start.cnt 1 = .ok .reset ∧
      ({ start with input := [.byte 0xB4] } : State).input = .byte 0xB4 :: [] ∧
      decode .rx8 start.fsm start.cnt (0xB4 : Byte).toNat = .ok .startKr ∧
      decode .poll32 start.fsm start.cnt (0xFFFFFFFF : Clock).toNat = .ok (.poll 0xFFFFFFFF) ∧
      decode .kc8 start.fsm start.cnt (0xFF : Byte).toNat = .ok (.translate 0xFF) ∧
      decode .st5 start.fsm start.cnt 0 = .ok .status := by decide

theorem witness_StepKeepsTheInvariant :
    (start.presentPacket press17).Inv ∧ ∃ t, step (start.presentPacket press17) = .next t := ⟨press17_inv, _, rfl⟩

theorem witness_StartMarkerOpensAPacket : start.fsm = .idle := by decide

theorem witness_IdleByteIsDiscarded :
    start.fsm = .idle ∧ ((0xA4 : Byte) ≠ 0xA5 ∧ (0xA4 : Byte) ≠ 0xB4) ∧
      ((0xB5 : Byte) ≠ 0xA5 ∧ (0xB5 : Byte) ≠ 0xB4) := by
  decide

theorem witness_CollectedByteIsStored :
    ∀ c ∈ ([1, 6] : List Count), ({ start with fsm := .collecting, cnt := c } : State).fsm = .collecting ∧
      1 ≤ c.toNat ∧ c.toNat ≤ 6 := by decide

/-- One packet of each class, its bytes 0 to 6 in the buffer. -/
theorem witness_EighthByteCompletesThePacket :
    ∀ p ∈ [heartbeatFF, wrongHeader, wrongChecksum, press17],
      (start.presentPacket p).fsm = .collecting ∧ (start.presentPacket p).cnt = 7 ∧
        p = packetInBuffer (start.presentPacket p).buf p.ck ∧ (classifyPacket p).isSome = true := by decide

theorem witness_HeartbeatChangesNothing : heartbeatFF.start = 0xA5 := by decide
theorem witness_WrongHeaderIsAFramingError : wrongHeader.start = 0xB4 ∧ wrongHeader.hdr ≠ 0xC5 := by decide
theorem witness_WrongChecksumIsAChecksumError :
    wrongChecksum.start = 0xB4 ∧ wrongChecksum.hdr = 0xC5 ∧
      wrongChecksum.start + wrongChecksum.hdr + wrongChecksum.rsv2 + wrongChecksum.mod + wrongChecksum.keyA +
        wrongChecksum.keyB + wrongChecksum.rsv6 + wrongChecksum.ck ≠ 0 := by decide

/-- The three cases, each on a presented packet. -/
theorem witness_RejectedPacketMutatesNothing :
    (start.presentPacket heartbeatFF).input = .byte 0xFF :: [] ∧ heartbeatFF.start = 0xA5 ∧
      heartbeatFF = packetInBuffer (start.presentPacket heartbeatFF).buf 0xFF ∧
      (start.presentPacket wrongHeader).input = .byte 0x71 :: [] ∧ wrongHeader.start = 0xB4 ∧
      wrongHeader.hdr ≠ 0xC5 ∧
      wrongHeader = packetInBuffer (start.presentPacket wrongHeader).buf 0x71 ∧
      (start.presentPacket wrongChecksum).input = .byte 0x71 :: [] ∧ wrongChecksum.start = 0xB4 ∧
      wrongChecksum.hdr = 0xC5 ∧ checksum wrongChecksum ≠ 0x71 ∧
      wrongChecksum = packetInBuffer (start.presentPacket wrongChecksum).buf 0x71 ∧
      (start.presentPacket wrongChecksum).fsm = .collecting ∧ (start.presentPacket wrongChecksum).cnt = 7 := by decide

theorem witness_AcceptedReportUpdatesTheDecoder :
    press17.start = 0xB4 ∧ press17.hdr = 0xC5 ∧ checksum press17 = press17.ck := by decide

theorem witness_ChecksumRoundTripIsAccepted : wrongChecksum.start = 0xB4 ∧ wrongChecksum.hdr = 0xC5 := by decide

/-- KR 0, 17, 0 and a report of the same keys with reserved bytes `5A`, `C3` and byte[3] = `F0`. -/
theorem witness_ReservedBitsHaveNoEffect :
    (Instr.keyreport press17).wf = true ∧
      (Instr.keyreport ⟨0xB4, 0xC5, 0x5A, 0xF0, 0x17, 0x00, 0xC3, 0x63⟩).wf = true ∧
      press17.mod.setWidth 4 = ((0xF0 : Byte).setWidth 4 : BitVec 4) := by decide

theorem witness_OnlyByteAndResetMoveTheSequencer :
    ((∃ t, step { start.collectAt 3 with input := [.poll 1001] } = .next t) ∧
        (∀ rest, ([.poll 1001] : List Stimulus) ≠ .reset :: rest) ∧
        ∀ b rest, ([.poll 1001] : List Stimulus) ≠ .byte b :: rest) ∧
      ((∃ t, step { start.collectAt 6 with input := [.byte 0xB4] } = .next t) ∧
        (∀ rest, ([.byte 0xB4] : List Stimulus) ≠ .reset :: rest) ∧ (start.collectAt 6).fsm = .collecting ∧
        (start.collectAt 6).cnt.toNat < 7) :=
  ⟨⟨⟨_, rfl⟩, nofun, nofun⟩, ⟨_, rfl⟩, nofun, by decide⟩

/-- One byte lacking and seven bytes lacking. -/
theorem witness_PacketEndsAfterEightBytes :
    ((start.collectAt 7).fsm = .collecting ∧ ([0] : List Byte).length + (start.collectAt 7).cnt.toNat = 8 ∧
        ({ start.collectAt 7 with input := [.byte 0] } : State).input = ([0] : List Byte).map .byte ++ []) ∧
      ((start.collectAt 1).fsm = .collecting ∧
        ([1, 2, 3, 4, 5, 6, 7] : List Byte).length + (start.collectAt 1).cnt.toNat = 8) := by decide

theorem witness_EightBytesRunThePacketClass :
    ({ start with input := press17.bytes.map .byte } : State).fsm = .idle ∧
      ({ start with input := press17.bytes.map .byte } : State).cnt = 0 ∧
      classifyPacket press17 = some (.keyreport press17) := by decide

/-- Both clauses: a rising edge, a held bit (in either state), and a bit not set. -/
theorem witness_PeopleModeFlipsOnTheRisingEdge :
    (Instr.keyreport mods8).wf = true ∧ start.lastModifiers.getLsbD 3 = false ∧ mods8.mod.getLsbD 3 = true ∧
      ({ start with lastModifiers := 8 } : State).lastModifiers.getLsbD 3 = true ∧
      (Instr.keyreport release).wf = true ∧ release.mod.getLsbD 3 = false := by decide

/-- Both clauses: Shift with Orange, and Shift or Orange alone. -/
theorem witness_ShiftLockFlipsAtEveryGesturePacket :
    (Instr.keyreport modsD).wf = true ∧ modsD.mod.getLsbD 0 = true ∧ modsD.mod.getLsbD 2 = true ∧
      (Instr.keyreport (keyReport 1 0 0)).wf = true ∧ (keyReport 1 0 0).mod.getLsbD 2 = false ∧
      (Instr.keyreport (keyReport 4 0 0)).wf = true ∧ (keyReport 4 0 0).mod.getLsbD 0 = false := by decide

theorem witness_HeldButtonsRetriggerShiftNotPeople :
    (Instr.keyreport modsD).wf = true ∧ modsD.mod.getLsbD 3 = true ∧
      ∀ x ∈ [modsD, modsD, modsD], x.mod.getLsbD 0 = true ∧ x.mod.getLsbD 2 = true := by decide

theorem witness_DecoderStateWrittenOnlyByAcceptedReports :
    (start.presentPacket press17).Inv ∧ ∃ t, step (start.presentPacket press17) = .next t := ⟨press17_inv, _, rfl⟩

theorem witness_KeyEventsAreTheTransitionsInOrder : (Instr.keyreport rollover).wf = true := by decide
theorem witness_KeySlotsAreOverwritten : (Instr.keyreport rollover).wf = true := by decide

/-- KS11 and its mirror: the slots of the report before, in the same order and swapped. -/
theorem witness_HeldKeysEmitNoEvent :
    (Instr.keyreport rollover).wf = true ∧
      (rollover.keyA = ({ start with lastKeySlot0 := 0x42, lastKeySlot1 := 0x55 } : State).lastKeySlot0 ∧
        rollover.keyB = ({ start with lastKeySlot0 := 0x42, lastKeySlot1 := 0x55 } : State).lastKeySlot1) ∧
      (rollover.keyA = ({ start with lastKeySlot0 := 0x55, lastKeySlot1 := 0x42 } : State).lastKeySlot1 ∧
        rollover.keyB = ({ start with lastKeySlot0 := 0x55, lastKeySlot1 := 0x42 } : State).lastKeySlot0) := by decide

theorem witness_EventsAccountForTheHeldKeys :
    (Instr.keyreport rollover).wf = true ∧ (0x42 : Byte) ≠ 0 ∧ start.lastKeySlot0 = 0 ∧
      ({ start with lastKeySlot0 := 0x17 } : State).lastKeySlot0 ≠ start.lastKeySlot1 ∧
      rollover.keyA ≠ rollover.keyB ∧ release.keyA = 0 := by decide

theorem witness_KeyMissingFromAReportIsReleased :
    (Instr.keyreport rollover).wf = true ∧ 0 < ({ start with lastKeySlot1 := 0x21 } : State).slotCount 0x21 ∧
      (0x21 : Byte) ≠ 0 ∧ (0x21 : Byte) ≠ rollover.keyA ∧ (0x21 : Byte) ≠ rollover.keyB := by decide

theorem witness_OneStepsOutputIsBounded :
    ∃ t, step ({ start with lastKeySlot0 := 0x17, lastKeySlot1 := 0x21 }.presentPacket rollover) = .next t := ⟨_, rfl⟩

/-- The ends of both ranges, and the codes beside them. -/
theorem witness_TranslateRejectsRowSeven :
    (∀ k ∈ ([0x01, 0x10] : List Byte), 0x01 ≤ k.toNat ∧ k.toNat ≤ 0x10) ∧
      (∀ k ∈ ([0x81, 0x90] : List Byte), 0x81 ≤ k.toNat ∧ k.toNat ≤ 0x90) ∧
      (∀ k ∈ ([0x00, 0x11, 0x80, 0x91] : List Byte),
        ¬ ((0x01 ≤ k.toNat ∧ k.toNat ≤ 0x10) ∨ (0x81 ≤ k.toNat ∧ k.toNat ≤ 0x90))) := by decide

theorem witness_TranslateIgnoresTwoBits : ((0x35 : Byte) - 0x11).getLsbD 3 = false := by decide
theorem witness_TranslateSeesTheReportsModifiers : (Instr.keyreport (keyReport 1 0x35 0)).wf = true := by decide
theorem witness_QueriesArePure : (Instr.status = .status ∨ ∃ k, Instr.status = .translate k) := .inl rfl
theorem witness_ParametersAreNeverWritten : ∃ t, step { start with input := [.reset] } = .next t := ⟨_, rfl⟩

/-- KA2 and KA3: the two clauses where they meet. -/
theorem witness_PollSendsAfterOneThousandMilliseconds :
    1000 < ((1001 : Clock).toNat + 2 ^ 32 - start.lastKeepAliveTime.toNat) % 2 ^ 32 ∧
      ((1000 : Clock).toNat + 2 ^ 32 - start.lastKeepAliveTime.toNat) % 2 ^ 32 ≤ 1000 := by decide

theorem witness_KeepAlivesAreMoreThanOneSecondApart :
    Stimulus.reset ∉ ([.poll 1001, .byte 0xB4, .poll 2002] : List Stimulus) ∧
      sendTimes [.poll 1001, .byte 0xB4, .poll 2002] start = [1001, 2002] := by decide

/-- Two states that differ in the keep-alive unit, two that agree on it alone, and a step with no reset and no poll. -/
theorem witness_KeepAliveUnitIsIndependent :
    (State.agreeOffKeepAlive { start with input := [.poll 1001] }
        { start with input := [.poll 1001], lastKeepAliveTime := 9, t0 := 4 } ∧
      State.agreeOnKeepAlive { start with input := [.poll 1001] }
        { start.collectAt 3 with input := [.poll 1001], lastKeySlot0 := 0x17, out := [.diag .framing] } ∧
      (∃ t, step { start with input := [.poll 1001] } = .next t) ∧
      ({ start with input := [.poll 1001] } : State).input = .poll 1001 :: []) ∧
    ((∃ t, step { start with input := [.byte 0xB4] } = .next t) ∧
      (∀ rest, ([.byte 0xB4] : List Stimulus) ≠ .reset :: rest) ∧
      ∀ now rest, ([.byte 0xB4] : List Stimulus) ≠ .poll now :: rest) :=
  ⟨⟨⟨rfl, rfl⟩, ⟨rfl, rfl, rfl, rfl⟩, ⟨_, rfl⟩, rfl⟩, ⟨_, rfl⟩, nofun, nofun⟩

/-- Two states that differ in cell 5 with three bytes collected. -/
theorem witness_BufferTailIsUnobservable :
    State.agreeOnPacket { start with fsm := .collecting, cnt := 3, buf := [(0, 0xB4)], input := [.byte 1] }
        { start with fsm := .collecting, cnt := 3, buf := [(0, 0xB4), (5, 9)], input := [.byte 1] } ∧
      ∃ t, step { start with fsm := .collecting, cnt := 3, buf := [(0, 0xB4)], input := [.byte 1] } = .next t :=
  ⟨⟨rfl, fun _ => by decide⟩, _, rfl⟩

theorem witness_FirstReportAfterResetStartsFromNothing : (Instr.keyreport press17).wf = true := by decide

theorem witness_MessagesLeaveOnlyWhenTheRulesSay :
    (∃ t, step { start with input := [.reset] } = .next t) ∧ ∃ t, step { start with input := [.poll 1001] } = .next t :=
  ⟨⟨_, rfl⟩, _, rfl⟩

theorem witness_OutputRowsEmitTheirItem : (0x01 : Byte) ≠ 0 ∧ (0xFF : Byte) ≠ 0 := by decide

theorem witness_NonStoringInstructionsKeepTheBuffer :
    (∃ t, exec (.poll 1001) start = .next t) ∧ Instr.poll 1001 ≠ .reset ∧ Instr.poll 1001 ≠ .startHb ∧
      Instr.poll 1001 ≠ .startKr ∧ (∀ b, Instr.poll 1001 ≠ .collect b) ∧ (∀ b, Instr.poll 1001 ≠ .complete b) ∧
      (∀ p, Instr.poll 1001 ≠ .frameerr p) ∧ ∀ p, Instr.poll 1001 ≠ .ckerr p :=
  ⟨⟨_, rfl⟩, nofun, nofun, nofun, nofun, nofun, nofun, nofun⟩

/-- Each of the four storing rows with its cell. -/
theorem witness_StoringInstructionsChangeOneCell :
    (∃ t, exec .startHb start = .next t) ∧ (∃ t, exec .startKr start = .next t) ∧
      (∃ t, exec (.collect 7) { start with fsm := .collecting, cnt := 6 } = .next t) ∧
      (∃ t, exec (.complete 0x70) (start.presentPacket press17) = .next t) :=
  ⟨⟨_, rfl⟩, ⟨_, rfl⟩, ⟨_, rfl⟩, ⟨_, rfl⟩⟩

theorem witness_OtherInstructionsKeepTheRegisters :
    (∃ t, exec (.collect 7) { start with fsm := .collecting, cnt := 6 } = .next t) ∧ Instr.collect 7 ≠ .reset ∧
      (∀ p, Instr.collect 7 ≠ .keyreport p) ∧ (∀ b, Instr.collect 7 ≠ .complete b) ∧ ∀ n, Instr.collect 7 ≠ .poll n :=
  ⟨⟨_, rfl⟩, nofun, nofun, nofun, nofun⟩

end Sys2Proof.Tests
end

