-- ==== Sys2Proof/Proofs/Queries.lean ====
section
/-! PROOF. The two queries (spec/20_memory.md R57): an answer is not an input of either, so the second of two equal
queries recomputes the first one's answer. -/

namespace Sys2Proof.Machine

section Reply
variable (s : State) (a b : Answer)

@[simp] theorem State.reply_reply : (s.reply a).reply b = s.reply b := rfl

@[simp] theorem statusWord_reply : statusWord (s.reply a) = statusWord s := rfl

@[simp] theorem selectTable_reply : selectTable (s.reply a) = selectTable s := rfl

@[simp] theorem translateKey_reply (k : Byte) : translateKey k (s.reply a) = translateKey k s := by
  simp [translateKey]

end Reply

/-- An instruction that only replies with a function of the state, one that does not read the answer, is a pure read. -/
theorem exec_pure_of_reply {i : Instr} (f : State → Answer) (hexec : ∀ s, exec i s = .next (s.reply (f s)))
    (hf : ∀ s a, f (s.reply a) = f s) (s : State) :
    ∃ t, exec i s = .next t ∧ t = { s with answer := t.answer } ∧ exec i t = .next t := by
  have again : exec i (s.reply (f s)) = .next (s.reply (f s)) := by
    rw [hexec, hf, State.reply_reply]
  exact ⟨s.reply (f s), hexec s, rfl, again⟩

/-- Settles O42: both queries only reply, and neither the status word nor a translation reads the last answer. -/
theorem queriesArePure : Obligations.QueriesArePure := by
  rintro s i (rfl | ⟨k, rfl⟩)
  · exact exec_pure_of_reply (fun s => .status (statusWord s)) exec_status
      (fun s a => congrArg Answer.status (statusWord_reply s a)) s
  · exact exec_pure_of_reply (fun s => .translate (translateKey k s)) (exec_translate · k)
      (fun s a => congrArg Answer.translate (translateKey_reply s a k)) s

end Sys2Proof.Machine
end

