-- ==== Sys2Proof/Proofs/Classes.lean ====
section
/-! PROOF. The classes of a completed packet and of an inbound byte (spec/30_encoding.md R79, R80, R82): one equation
per case of each classifier, and the checksum test read on numbers. -/

namespace Sys2Proof.Machine

/-- R82's first test decides alone. -/
theorem classifyPacket_of_startHeartbeat {p : Packet} (h : p.start = Const.startHeartbeat) :
    classifyPacket p = some (.heartbeat p) := by
  simp [classifyPacket, h]

/-- Behind the other start marker the header is tested before the checksum (R82). -/
theorem classifyPacket_of_startKeyreport {p : Packet} (h : p.start = Const.startKeyreport) :
    classifyPacket p = some (if p.hdr ≠ Const.header then .frameerr p
      else if checksum p ≠ p.ck then .ckerr p else .keyreport p) := by
  have hne : Const.startKeyreport ≠ Const.startHeartbeat := by decide
  simp only [classifyPacket, h, if_neg hne, if_true, apply_ite some]

/-- R82's third test on plain numbers (R110). -/
theorem checksum_ne_iff_toNat_ne (p : Packet) :
    checksum p ≠ p.ck ↔
      (256 - (p.start.toNat + p.hdr.toNat + p.rsv2.toNat + p.mod.toNat + p.keyA.toNat + p.keyB.toNat +
        p.rsv6.toNat) % 256) % 256 ≠ p.ck.toNat := by
  rw [← checksum_toNat, BitVec.toNat_ne_iff_ne]

/-- Settles O5: a heartbeat passes the first test; a key report goes through the other three in R82's order, the
checksum test being the same on bytes and on numbers. -/
theorem packetClassesFollowTheTestOrder : Obligations.PacketClassesFollowTheTestOrder := by
  rintro p (hstart | hstart)
  · rw [classifyPacket_of_startHeartbeat hstart, if_pos hstart]
  · have hne : p.start ≠ 0xA5 := by
      rw [hstart]
      decide
    rw [classifyPacket_of_startKeyreport hstart, if_neg hne]
    simp only [checksum_ne_iff_toNat_ne, Const.header]

/-- In `Idle` every byte but the two start markers is discarded (R79). -/
theorem classifyByte_idle_of_ne {b : Byte} (cnt : Count) (hhb : b ≠ Const.startHeartbeat)
    (hkr : b ≠ Const.startKeyreport) : classifyByte .idle cnt b = .idleDiscard b := by
  simp [classifyByte, hhb, hkr]

/-- Before the last byte the count alone makes a byte payload (R80). -/
theorem classifyByte_collecting_of_lt {cnt : Count} (h : cnt.toNat < 7) (b : Byte) :
    classifyByte .collecting cnt b = .collect b :=
  if_pos h

/-- At the count 7 every byte ends the packet (R80). -/
theorem classifyByte_collecting_seven (b : Byte) : classifyByte .collecting 7 b = .complete b := rfl

/-- Settles O6: the two start markers by evaluation, every other byte by its equation for the sequencer state. -/
theorem byteClassFollowsTheSequencer : Obligations.ByteClassFollowsTheSequencer := by
  refine ⟨fun _ => rfl, fun _ => rfl, ?discarded, ?collected, ?completed⟩
  case discarded => exact fun cnt _ hhb hkr => classifyByte_idle_of_ne cnt hhb hkr
  case collected => exact fun _ b _ hle => classifyByte_collecting_of_lt (Nat.lt_succ_of_le hle) b
  case completed => exact classifyByte_collecting_seven

end Sys2Proof.Machine
end

/-! PROOF. Sub-block FR (spec/40_framer.md R101 to R103, R106 to R108, R111): what one byte and a rejected packet leave
behind, and which steps can move the sequencer. -/

namespace Sys2Proof.Machine

/-- Storing a byte, read back: its cell holds the byte and every other cell is as before (R33, R56). -/
theorem State.storeBuf_read (s : State) (i : Nat) (b : Byte) :
    Memory.read (s.storeBuf i b).buf i = b ∧
      ∀ a, a ≠ i → Memory.read (s.storeBuf i b).buf a = Memory.read s.buf a :=
  ⟨Memory.read_write_same s.buf i b, fun _ ha => Memory.read_write_ne s.buf b ha⟩

/-- The packet's opening has the same whole effect for either marker (R101). -/
theorem startPacket_frame (marker : Byte) (s : State) :
    startPacket marker s = { s with buf := (startPacket marker s).buf, cnt := 1, fsm := .collecting } ∧
      Memory.read (startPacket marker s).buf 0 = marker ∧
      ∀ a, a ≠ 0 → Memory.read (startPacket marker s).buf a = Memory.read s.buf a :=
  ⟨rfl, s.storeBuf_read 0 marker⟩

/-- The three-bit count does not wrap before the eighth byte (R27, R103). -/
theorem Count.toNat_add_one_of_le {c : Count} (h : c.toNat ≤ 6) : (c + 1).toNat = c.toNat + 1 :=
  BitVec.toNat_add_of_lt (Nat.lt_of_le_of_lt (Nat.succ_le_succ h) (by decide))

/-- A diagnostic as one update of the whole state (R189). -/
theorem State.takeDiagnostic_eq (s : State) (k : DiagKind) :
    s.takeDiagnostic k = { s with fsm := .idle, cnt := 0, out := s.out ++ [.diag k] } := rfl

/-- Settles O14: the store touches the one cell that the count names, and the count does not wrap. -/
theorem collectedByteIsStored : Obligations.CollectedByteIsStored := by
  intro s b _ _ hle
  obtain ⟨hsame, hother⟩ := s.storeBuf_read s.cnt.toNat b
  exact ⟨_, exec_collect s b, rfl, Count.toNat_add_one_of_le hle, hsame, hother⟩

/-- A poll that sends and a poll that does not both leave the sequencer and the buffer alone (R195). -/
theorem keepAlive_keeps_sequencer (now : Clock) (s : State) :
    (keepAlive now s).fsm = s.fsm ∧ (keepAlive now s).cnt = s.cnt ∧ (keepAlive now s).buf = s.buf := by
  rcases keepAlive_cases now s with ⟨-, hsent⟩ | ⟨-, hheld⟩
  · rw [hsent]
    exact ⟨rfl, rfl, rfl⟩
  · rw [hheld]
    exact ⟨rfl, rfl, rfl⟩

/-- R111's first sentence: what is left besides a byte and a reset is a poll, a query, or no stimulus. -/
theorem step_keeps_sequencer {s t : State} (h : step s = .next t) (hreset : ∀ rest, s.input ≠ .reset :: rest)
    (hbyte : ∀ b rest, s.input ≠ .byte b :: rest) : t.fsm = s.fsm ∧ t.cnt = s.cnt ∧ t.buf = s.buf := by
  rcases step_cases h with ⟨-, rfl⟩ | ⟨x, rest, hin, hexec⟩
  · exact ⟨rfl, rfl, rfl⟩
  · cases x with
    | reset => exact absurd hin (hreset rest)
    | byte b => exact absurd hin (hbyte b rest)
    | poll now =>
      cases hexec
      exact keepAlive_keeps_sequencer now (s.beginStep rest)
    | status =>
      cases hexec
      exact ⟨rfl, rfl, rfl⟩
    | translate k =>
      cases hexec
      exact ⟨rfl, rfl, rfl⟩

/-- Before the eighth byte a step that takes a byte collects it, whatever the byte is (R80, R103). -/
theorem step_byte_of_collecting {s : State} {b : Byte} {rest : List Stimulus} (hin : s.input = .byte b :: rest)
    (hfsm : s.fsm = .collecting) (hlt : s.cnt.toNat < 7) : step s = exec (.collect b) (s.beginStep rest) := by
  rw [step_of_input hin, decodeStimulus, hfsm, classifyByte_collecting_of_lt hlt]

/-- Settles O24: the first clause is `step_keeps_sequencer`; for the second a byte is collected, which keeps `fsm`, and
every other stimulus falls under the first. -/
theorem onlyByteAndResetMoveTheSequencer : Obligations.OnlyByteAndResetMoveTheSequencer := by
  intro s t h hreset
  refine ⟨step_keeps_sequencer h hreset, fun hfsm hlt => ?_⟩
  by_cases hbyte : ∃ b rest, s.input = .byte b :: rest
  · obtain ⟨b, rest, hin⟩ := hbyte
    rw [step_byte_of_collecting hin hfsm hlt, exec_collect] at h
    cases h
    exact hfsm
  · obtain ⟨hkept, -, -⟩ := step_keeps_sequencer h hreset fun b rest hin => hbyte ⟨b, rest, hin⟩
    exact hkept.trans hfsm

/-- Settles O12: both markers open the packet in the same way. -/
theorem startMarkerOpensAPacket : Obligations.StartMarkerOpensAPacket := fun s _ =>
  ⟨⟨_, exec_startHb s, startPacket_frame Const.startHeartbeat s⟩,
    ⟨_, exec_startKr s, startPacket_frame Const.startKeyreport s⟩⟩

/-- Settles O13: the meaning of a discarded byte is the identity. -/
theorem idleByteIsDiscarded : Obligations.IdleByteIsDiscarded := fun s b _ _ _ => exec_idleDiscard s b

/-- Settles O16: the meaning of a heartbeat is the identity. -/
theorem heartbeatChangesNothing : Obligations.HeartbeatChangesNothing := fun s p _ => exec_heartbeat s p

/-- Settles O17: a wrong header takes the framing diagnostic and does nothing else. -/
theorem wrongHeaderIsAFramingError : Obligations.WrongHeaderIsAFramingError := by
  intro s p _ _
  rw [exec_frameerr, State.takeDiagnostic_eq]

/-- Settles O18: a wrong checksum takes the checksum diagnostic and does nothing else. -/
theorem wrongChecksumIsAChecksumError : Obligations.WrongChecksumIsAChecksumError := by
  intro s p _ _ _
  rw [exec_ckerr, State.takeDiagnostic_eq]

end Sys2Proof.Machine

/-! PROOF. Sub-block MOD (spec/41_modifiers.md R123, R126 to R131): what an accepted report does to Shift lock, and the
bits of the status word. -/

namespace Sys2Proof.Machine

/-- R123 in an accepted report: the key update that follows does not touch Shift lock. -/
theorem keyreport_shiftToggled (p : Packet) (s : State) :
    (keyUpdate p.keyA p.keyB (modUpdate (modifiersOf p) s)).shiftToggled =
      if p.mod.getLsbD 0 && p.mod.getLsbD 2 then !s.shiftToggled else s.shiftToggled := by
  rw [keyUpdate_shiftToggled, modUpdate_shiftToggled, shiftGesture_modifiersOf]

/-- Settles O28: the flip is guarded by the two bits alone, so it is taken when both are set and not when one is 0. -/
theorem shiftLockFlipsAtEveryGesturePacket : Obligations.ShiftLockFlipsAtEveryGesturePacket := by
  intro s p _
  refine ⟨_, exec_keyreport s p, ?flipped, ?kept⟩
  case flipped =>
    intro hshift horange
    rw [keyreport_shiftToggled, hshift, horange]
    rfl
  case kept =>
    rintro (hshift | horange)
    · rw [keyreport_shiftToggled, hshift]
      rfl
    · rw [keyreport_shiftToggled, horange, Bool.and_false]
      rfl

/-- The status word grows by one bit at its low end for each query, People mode first. -/
theorem statusWord_eq_concat (s : State) :
    statusWord s = ((((BitVec.ofBool (isPeopleModeActive s)).concat (isPeopleActive s)).concat
      (isOrangeActive s)).concat (isGreenActive s)).concat (isShiftActive s) := rfl

/-- The place of each query in the status word (R131). -/
theorem statusWord_bits (s : State) :
    (statusWord s).getLsbD 0 = isShiftActive s ∧ (statusWord s).getLsbD 1 = isGreenActive s ∧
      (statusWord s).getLsbD 2 = isOrangeActive s ∧ (statusWord s).getLsbD 3 = isPeopleActive s ∧
      (statusWord s).getLsbD 4 = isPeopleModeActive s := by
  rw [statusWord_eq_concat]
  simp only [BitVec.getLsbD_concat_succ, BitVec.getLsbD_concat_zero, BitVec.getLsbD_ofBool, decide_true, Bool.true_and,
    and_self]

/-- Settles O30: the query replies with the status word, and each of its bits is the condition of R126 to R130. -/
theorem statusAnswersTheFiveConditions : Obligations.StatusAnswersTheFiveConditions := fun s =>
  ⟨statusWord s, exec_status s, statusWord_bits s⟩

end Sys2Proof.Machine

/-! PROOF. Sub-block KS (spec/42_keyslots.md R141 to R146): the events of an accepted report, and the slots it leaves. -/

namespace Sys2Proof.Machine

/-- The event of one slot, with the test of R141 to R144 written on the codes. -/
theorem eventIf_isNewTo (c x y : Byte) (d : Dir) :
    eventIf (isNewTo c x y) c d = if c ≠ 0 ∧ c ≠ x ∧ c ≠ y then [.keyEvent c d] else [] := by
  simp only [eventIf, isNewTo_iff]

/-- The modifier update that comes first emits nothing and leaves the previous slots for the tests (R109, R125). -/
theorem keyreport_out (p : Packet) (s : State) :
    (keyUpdate p.keyA p.keyB (modUpdate (modifiersOf p) s)).out =
      s.out ++ keyEvents p.keyA p.keyB s.lastKeySlot0 s.lastKeySlot1 := by
  rw [keyUpdate_out, modUpdate_out, modUpdate_lastKeySlot0, modUpdate_lastKeySlot1]

/-- Settles O32: the output grows by `keyEvents`, which lists the four slots' events in R145's order; each of them is
the conditional event of its slot. -/
theorem keyEventsAreTheTransitionsInOrder : Obligations.KeyEventsAreTheTransitionsInOrder := fun s p _ =>
  ⟨_, _, _, _, _, exec_keyreport s p, keyreport_out p s,
    eventIf_isNewTo p.keyA s.lastKeySlot0 s.lastKeySlot1 .down,
    eventIf_isNewTo p.keyB s.lastKeySlot0 s.lastKeySlot1 .down,
    eventIf_isNewTo s.lastKeySlot0 p.keyA p.keyB .up,
    eventIf_isNewTo s.lastKeySlot1 p.keyA p.keyB .up⟩

/-- Settles O33: the key update writes both slots, whatever the tests of its events gave. -/
theorem keySlotsAreOverwritten : Obligations.KeySlotsAreOverwritten := fun s p _ =>
  ⟨_, exec_keyreport s p, keyUpdate_lastKeySlot0 .., keyUpdate_lastKeySlot1 ..⟩

end Sys2Proof.Machine

/-! PROOF. Diagnostics and the keep-alive (spec/60_exceptions.md R189, R193): the step that rejects a packet, and the
two answers of a poll. -/

namespace Sys2Proof.Machine

theorem State.emitAll_nil (s : State) : s.emitAll [] = s := by
  rw [State.emitAll, List.append_nil]

/-- At the count 7 the step takes the byte as byte[7] and validates the packet from `Idle` (R104). -/
theorem step_byte_of_seven {s : State} {b : Byte} {rest : List Stimulus} (hin : s.input = .byte b :: rest)
    (hfsm : s.fsm = .collecting) (hcnt : s.cnt = 7) :
    step s = validate (packetInBuffer s.buf b) ((s.beginStep rest).storeBuf 7 b).returnToIdle := by
  rw [step_of_input hin, decodeStimulus, hfsm, hcnt, classifyByte_collecting_seven, exec_complete, State.beginStep_buf]

section Rejected
variable {p : Packet} (s : State)

theorem validate_of_startHeartbeat (hstart : p.start = Const.startHeartbeat) : validate p s = .next s := by
  rw [validate_eq_exec (classifyPacket_of_startHeartbeat hstart), exec_heartbeat]

theorem validate_of_wrong_header (hstart : p.start = Const.startKeyreport) (hhdr : p.hdr ≠ Const.header) :
    validate p s = .next (s.takeDiagnostic .framing) := by
  rw [validate_eq_exec (classifyPacket_of_startKeyreport hstart), if_pos hhdr, exec_frameerr]

theorem validate_of_wrong_checksum (hstart : p.start = Const.startKeyreport) (hhdr : p.hdr = Const.header)
    (hck : checksum p ≠ p.ck) : validate p s = .next (s.takeDiagnostic .checksum) := by
  rw [validate_eq_exec (classifyPacket_of_startKeyreport hstart), if_neg (not_not_intro hhdr), if_pos hck, exec_ckerr]

/-- From `Idle` a diagnostic is its output item alone: the sequencer is already where R189 puts it. -/
theorem State.takeDiagnostic_returnToIdle (k : DiagKind) :
    s.returnToIdle.takeDiagnostic k = s.returnToIdle.emitAll [.diag k] := rfl

end Rejected

/-- Settles O19: each rejecting test leaves the state that the byte's store and the return to `Idle` made, and appends
the listed items to its empty output list. -/
theorem rejectedPacketMutatesNothing : Obligations.RejectedPacketMutatesNothing := by
  intro s b rest p hin hfsm hcnt hp xs hcase
  obtain rfl : p = packetInBuffer s.buf b := hp
  have hrejected (u : State) :
      validate (packetInBuffer s.buf b) u.returnToIdle = .next (u.returnToIdle.emitAll xs) := by
    rcases hcase with ⟨hstart, rfl⟩ | ⟨hstart, hhdr, rfl⟩ | ⟨hstart, hhdr, hck, rfl⟩
    · rw [validate_of_startHeartbeat _ hstart, State.emitAll_nil]
    · rw [validate_of_wrong_header _ hstart hhdr, State.takeDiagnostic_returnToIdle]
    · rw [validate_of_wrong_checksum _ hstart hhdr hck, State.takeDiagnostic_returnToIdle]
  exact ⟨_, (step_byte_of_seven hin hfsm hcnt).trans (hrejected _), rfl, (s.beginStep rest).storeBuf_read 7 b⟩

/-- The poll's comparison on plain numbers (R193, R194). -/
theorem kaPeriodMs_lt_sub_iff (now last : Clock) :
    Const.kaPeriodMs < now - last ↔ 1000 < (now.toNat + 2 ^ 32 - last.toNat) % 2 ^ 32 := by
  rw [BitVec.lt_def, BitVec.toNat_sub', Nat.add_sub_assoc last.isLt.le now.toNat]
  rfl

/-- Settles O44: the two cases of a poll, their comparison read on numbers. -/
theorem pollSendsAfterOneThousandMilliseconds : Obligations.PollSendsAfterOneThousandMilliseconds := by
  intro s now
  rw [exec_poll, ← Nat.not_lt, ← kaPeriodMs_lt_sub_iff]
  rcases keepAlive_cases now s with ⟨hdue, hsent⟩ | ⟨hnotDue, hheld⟩
  · exact ⟨fun _ => congrArg _ hsent, fun h => absurd hdue h⟩
  · exact ⟨fun h => absurd h hnotDue, fun _ => congrArg _ hheld⟩

end Sys2Proof.Machine

/-! PROOF. The outbound messages (spec/70_reset_and_hazards.md R212, spec/60_exceptions.md R193): which step sends
which of the two. -/

namespace Sys2Proof.Machine

/-- A reset appends the init message to the output list and nothing else (R210). -/
theorem exec_reset_out {s t : State} (h : exec .reset s = .next t) : t.out = s.out ++ [.tx Const.initMsg] := by
  cases h
  rfl

/-- The one message a poll can add is the keep-alive, and it adds it when it is due (R193). -/
theorem tx_mem_keepAlive_out {now : Clock} {s : State} {m : List Byte} :
    .tx m ∈ (keepAlive now s).out ↔
      .tx m ∈ s.out ∨ m = Const.kaMsg ∧ Const.kaPeriodMs < now - s.lastKeepAliveTime := by
  rcases keepAlive_cases now s with ⟨hdue, hsent⟩ | ⟨hnotDue, hheld⟩
  · simp [hsent, hdue]
  · simp [hheld, hnotDue]

/-- A step that takes a reset emits the init message as its only item: its output list was empty before. -/
theorem step_reset_out {s t : State} {rest : List Stimulus} (h : step s = .next t) (hin : s.input = .reset :: rest) :
    t.out = [.tx Const.initMsg] := by
  rw [step_of_input hin] at h
  exact exec_reset_out h

/-- Every message a step sends: the init message if it takes a reset, the keep-alive if it takes a poll that is due. -/
theorem tx_mem_step_out {s t : State} (h : step s = .next t) {m : List Byte} :
    .tx m ∈ t.out ↔
      (m = Const.initMsg ∧ ∃ rest, s.input = .reset :: rest) ∨
      (m = Const.kaMsg ∧
        ∃ now rest, s.input = .poll now :: rest ∧ Const.kaPeriodMs < now - s.lastKeepAliveTime) := by
  rcases step_cases h with ⟨hin, rfl⟩ | ⟨x, rest, hin, hexec⟩
  · simp [hin]
  · cases x with
    | reset => simp [hin, step_reset_out h hin]
    | byte b =>
      obtain ⟨u, hu, -, -, -, hkept⟩ := exec_byte_keepAlive b s.fsm s.cnt (s.beginStep rest)
      cases hu.symm.trans hexec
      have hnone : .tx m ∉ t.out := fun hm => absurd (hkept m hm) List.not_mem_nil
      simp [hin, hnone]
    | poll now =>
      cases hexec
      simp [hin, tx_mem_keepAlive_out]
    | status =>
      cases hexec
      simp [hin]
    | translate k =>
      cases hexec
      simp [hin]

theorem initMsg_ne_kaMsg : Const.initMsg ≠ Const.kaMsg := by decide

/-- The init message leaves on a reset and on nothing else (R212). -/
theorem initMsg_mem_step_out {s t : State} (h : step s = .next t) :
    .tx Const.initMsg ∈ t.out ↔ ∃ rest, s.input = .reset :: rest := by
  simp [tx_mem_step_out h, initMsg_ne_kaMsg]

/-- The keep-alive message leaves on a poll that is due and on nothing else (R193). -/
theorem kaMsg_mem_step_out {s t : State} (h : step s = .next t) :
    .tx Const.kaMsg ∈ t.out ↔
      ∃ now rest, s.input = .poll now :: rest ∧ Const.kaPeriodMs < now - s.lastKeepAliveTime := by
  simp [tx_mem_step_out h, initMsg_ne_kaMsg.symm]

/-- Settles O52: a step's messages are read at each of the two, and a reset's item is alone on its list. -/
theorem messagesLeaveOnlyWhenTheRulesSay : Obligations.MessagesLeaveOnlyWhenTheRulesSay := fun _ _ h =>
  ⟨initMsg_mem_step_out h, fun ⟨_, hin⟩ => step_reset_out h hin, kaMsg_mem_step_out h⟩

end Sys2Proof.Machine

/-! PROOF. The decoder against the encoder (spec/30_encoding.md): one equation of the decoder per format, what each
class of word it reads looks like, and the two round trips. -/

namespace Sys2Proof.Machine

section DecodeEquations
variable (fsm : Fsm) (cnt : Count)

/-- A value that fits its format is read by the format's own reader. -/
theorem decode_toNat_rx8 (b : Byte) : decode .rx8 fsm cnt b.toNat = .ok (classifyByte fsm cnt b) := by
  rw [decode, if_pos (show b.toNat < 2 ^ Format.width .rx8 from b.isLt), BitVec.ofNat_toNat, BitVec.setWidth_eq]

theorem decode_toNat_kc8 (k : Byte) : decode .kc8 fsm cnt k.toNat = .ok (.translate k) := by
  rw [decode, if_pos (show k.toNat < 2 ^ Format.width .kc8 from k.isLt), BitVec.ofNat_toNat, BitVec.setWidth_eq]

theorem decode_toNat_poll32 (now : Clock) : decode .poll32 fsm cnt now.toNat = .ok (.poll now) := by
  rw [decode, if_pos (show now.toNat < 2 ^ Format.width .poll32 from now.isLt), BitVec.ofNat_toNat, BitVec.setWidth_eq]

theorem decode_toNat_ev9 (w : BitVec 9) : decode .ev9 fsm cnt w.toNat = decodeEvent w := by
  rw [decode, if_pos (show w.toNat < 2 ^ Format.width .ev9 from w.isLt), BitVec.ofNat_toNat, BitVec.setWidth_eq]

theorem decode_toNat_dg2 (w : BitVec 2) : decode .dg2 fsm cnt w.toNat = decodeDiag w := by
  rw [decode, if_pos (show w.toNat < 2 ^ Format.width .dg2 from w.isLt), BitVec.ofNat_toNat, BitVec.setWidth_eq]

theorem decode_packetWord (p : Packet) : decode .pkt64 fsm cnt (packetWord p) = decodePacket (packetWord p) := by
  rw [decode, if_pos (show packetWord p < 2 ^ Format.width .pkt64 from packetWord_lt p)]

/-- A packet's word is read as the packet's class (R70, R82). -/
theorem decode_packetWord_of_class {p : Packet} {i : Instr} (h : classifyPacket p = some i) :
    decode .pkt64 fsm cnt (packetWord p) = .ok i := by
  rw [decode_packetWord, decodePacket, packetOfWord_packetWord, h]

theorem decode_packetWord_of_no_class {p : Packet} (h : classifyPacket p = none) :
    decode .pkt64 fsm cnt (packetWord p) = .error .noStartMarker := by
  rw [decode_packetWord, decodePacket, packetOfWord_packetWord, h]

/-- The two messages are told apart by their words (R85). -/
theorem decode_initMsg : decode .tx40 fsm cnt (bytesWord Const.initMsg) = .ok .initMsg := by
  rw [decode, if_pos (by decide)]
  exact if_pos rfl

theorem decode_kaMsg : decode .tx40 fsm cnt (bytesWord Const.kaMsg) = .ok .kaMsg := by
  have hne : bytesWord Const.kaMsg ≠ bytesWord Const.initMsg := by decide
  rw [decode, if_pos (by decide)]
  exact (if_neg hne).trans (if_pos rfl)

end DecodeEquations

/-- A packet that meets the constraint of its row is of that row's class (R82). -/
theorem classifyPacket_of_wf_frameerr {p : Packet} (h : (Instr.frameerr p).wf = true) :
    classifyPacket p = some (.frameerr p) := by
  obtain ⟨hstart, hhdr⟩ : p.start = Const.startKeyreport ∧ p.hdr ≠ Const.header := by simpa [Instr.wf] using h
  rw [classifyPacket_of_startKeyreport hstart, if_pos hhdr]

theorem classifyPacket_of_wf_ckerr {p : Packet} (h : (Instr.ckerr p).wf = true) :
    classifyPacket p = some (.ckerr p) := by
  obtain ⟨⟨hstart, hhdr⟩, hck⟩ : (p.start = Const.startKeyreport ∧ p.hdr = Const.header) ∧ checksum p ≠ p.ck := by
    simpa [Instr.wf] using h
  rw [classifyPacket_of_startKeyreport hstart, if_neg (not_not_intro hhdr), if_pos hck]

/-- The constraint of an accepted report's row (R82). -/
theorem wf_keyreport_iff {p : Packet} :
    (Instr.keyreport p).wf = true ↔
      p.start = Const.startKeyreport ∧ p.hdr = Const.header ∧ checksum p = p.ck := by
  simp [Instr.wf, and_assoc]

theorem classifyPacket_of_wf_keyreport {p : Packet} (h : (Instr.keyreport p).wf = true) :
    classifyPacket p = some (.keyreport p) := by
  obtain ⟨hstart, hhdr, hck⟩ := wf_keyreport_iff.mp h
  rw [classifyPacket_of_startKeyreport hstart, if_neg (not_not_intro hhdr), if_neg (not_not_intro hck)]

/-- A key event's word, taken apart (R86). -/
theorem extractLsb'_ev9 (c : Byte) (d : Dir) : (ev9 c d).extractLsb' 0 8 = c := by
  cases d <;> exact BitVec.extractLsb'_append_eq_right

theorem getLsbD_ev9_eight (c : Byte) (d : Dir) : (ev9 c d).getLsbD 8 = (d == .down) := by
  cases d <;> exact BitVec.getLsbD_append

theorem decodeEvent_ev9 {c : Byte} (hc : c ≠ 0) (d : Dir) :
    decodeEvent (ev9 c d) = .ok (if d = .down then .keyDown c else .keyUp c) := by
  rw [decodeEvent, extractLsb'_ev9, getLsbD_ev9_eight, if_neg hc]
  cases d <;> rfl

/-- Settles O1: each row by the equation of its format; the mode of a byte row and the constraint of a packet row
select the row among those of its format. -/
theorem encodedInstructionDecodesBack : Obligations.EncodedInstructionDecodesBack := by
  intro i fsm cnt hwf hmode
  cases i with
  | reset | status => rfl
  | initMsg => exact decode_initMsg fsm cnt
  | kaMsg => exact decode_kaMsg fsm cnt
  | startHb | startKr =>
    obtain rfl : fsm = .idle := by simpa [Instr.decodedIn] using hmode
    rfl
  | idleDiscard b =>
    obtain rfl : fsm = .idle := by simpa [Instr.decodedIn] using hmode
    obtain ⟨hhb, hkr⟩ : b ≠ Const.startHeartbeat ∧ b ≠ Const.startKeyreport := by
      simpa [Instr.wf, isStartMarker] using hwf
    exact (decode_toNat_rx8 .idle cnt b).trans (congrArg _ (classifyByte_idle_of_ne cnt hhb hkr))
  | collect b =>
    obtain ⟨⟨rfl, -⟩, hle⟩ : (fsm = .collecting ∧ 1 ≤ cnt.toNat) ∧ cnt.toNat ≤ 6 := by
      simpa [Instr.decodedIn] using hmode
    exact (decode_toNat_rx8 .collecting cnt b).trans
      (congrArg _ (classifyByte_collecting_of_lt (Nat.lt_succ_of_le hle) b))
  | complete b =>
    obtain ⟨rfl, hcnt⟩ : fsm = .collecting ∧ cnt.toNat = 7 := by simpa [Instr.decodedIn] using hmode
    obtain rfl : cnt = 7 := BitVec.eq_of_toNat_eq hcnt
    exact decode_toNat_rx8 .collecting 7 b
  | heartbeat p =>
    exact decode_packetWord_of_class fsm cnt
      (classifyPacket_of_startHeartbeat (by simpa [Instr.wf] using hwf))
  | frameerr p => exact decode_packetWord_of_class fsm cnt (classifyPacket_of_wf_frameerr hwf)
  | ckerr p => exact decode_packetWord_of_class fsm cnt (classifyPacket_of_wf_ckerr hwf)
  | keyreport p => exact decode_packetWord_of_class fsm cnt (classifyPacket_of_wf_keyreport hwf)
  | poll now => exact decode_toNat_poll32 fsm cnt now
  | translate k => exact decode_toNat_kc8 fsm cnt k
  | keyDown c | keyUp c =>
    have hc : c ≠ 0 := by simpa [Instr.wf] using hwf
    exact (decode_toNat_ev9 fsm cnt _).trans (decodeEvent_ev9 hc _)
  | diagFraming | diagChecksum => exact decode_toNat_dg2 fsm cnt _

theorem lt_of_decode_ok {f : Format} {fsm : Fsm} {cnt : Count} {w : Nat} {i : Instr}
    (h : decode f fsm cnt w = .ok i) : w < 2 ^ f.width := by
  by_contra hw
  rw [decode.eq_def, if_neg hw] at h
  cases h

/-- What the word `w` of format `f` may be read as in the sequencer state `(fsm, cnt)`: an instruction that the table
allows there and whose own word is `w`. -/
structure ReadFrom (f : Format) (fsm : Fsm) (cnt : Count) (w : Nat) (i : Instr) : Prop where
  wf : i.wf = true
  format : i.format = f
  mode : (fsm = .idle ↔ cnt = 0) → i.decodedIn fsm cnt = true
  word : f ≠ .st5 → encode i = w

section Read
variable {fsm : Fsm} {cnt : Count}

theorem readFrom_classifyByte (b : Byte) : ReadFrom .rx8 fsm cnt b.toNat (classifyByte fsm cnt b) := by
  rcases classifyByte_cases fsm cnt b with
    ⟨rfl, rfl, e⟩ | ⟨rfl, rfl, e⟩ | ⟨rfl, hhb, hkr, e⟩ | ⟨rfl, hlt, e⟩ | ⟨rfl, hcnt, e⟩ <;> rw [e]
  · exact ⟨rfl, rfl, fun _ => rfl, fun _ => rfl⟩
  · exact ⟨rfl, rfl, fun _ => rfl, fun _ => rfl⟩
  · exact ⟨by simp [Instr.wf, isStartMarker, hhb, hkr], rfl, fun _ => rfl, fun _ => rfl⟩
  · refine ⟨rfl, rfl, fun hseq => ?_, fun _ => rfl⟩
    have hne : cnt.toNat ≠ 0 := fun h0 => Fsm.noConfusion (hseq.mpr (BitVec.eq_of_toNat_eq h0))
    simp only [Instr.decodedIn, beq_self_eq_true, Bool.true_and, Bool.and_eq_true, decide_eq_true_eq]
    omega
  · exact ⟨rfl, rfl, fun _ => by simp [Instr.decodedIn, hcnt], fun _ => rfl⟩

theorem readFrom_classifyPacket {p : Packet} {i : Instr} (h : classifyPacket p = some i) :
    ReadFrom .pkt64 fsm cnt (packetWord p) i := by
  unfold classifyPacket at h
  split_ifs at h with hhb hkr hhdr hck <;> cases h
  · exact ⟨by simp [Instr.wf, hhb], rfl, fun _ => rfl, fun _ => rfl⟩
  · exact ⟨by simp [Instr.wf, hkr, hhdr], rfl, fun _ => rfl, fun _ => rfl⟩
  · exact ⟨by simp [Instr.wf, hkr, not_not.mp hhdr, hck], rfl, fun _ => rfl, fun _ => rfl⟩
  · exact ⟨wf_keyreport_iff.mpr ⟨hkr, not_not.mp hhdr, not_not.mp hck⟩, rfl, fun _ => rfl, fun _ => rfl⟩

theorem readFrom_decodePacket {w : Nat} {i : Instr} (hw : w < 2 ^ 64) (h : decodePacket w = .ok i) :
    ReadFrom .pkt64 fsm cnt w i := by
  rw [← packetWord_packetOfWord hw]
  unfold decodePacket at h
  split at h
  · next hclass =>
    cases h
    exact readFrom_classifyPacket hclass
  · cases h

theorem readFrom_decodeMessage {w : Nat} {i : Instr} (h : decodeMessage w = .ok i) : ReadFrom .tx40 fsm cnt w i := by
  unfold decodeMessage at h
  split_ifs at h with hinit hka <;> cases h
  · exact ⟨rfl, rfl, fun _ => rfl, fun _ => hinit.symm⟩
  · exact ⟨rfl, rfl, fun _ => rfl, fun _ => hka.symm⟩

/-- A 9-bit value is the event word of its code and its direction bit (R86). -/
theorem ev9_of_bits (w : BitVec 9) : ev9 (w.extractLsb' 0 8) (if w.getLsbD 8 then .down else .up) = w := by
  have hbits : BitVec.ofBool (w.getLsbD 8) ++ w.extractLsb' 0 8 = w := by
    apply BitVec.eq_of_getLsbD_eq
    intro n hn
    rw [BitVec.getLsbD_append]
    by_cases h8 : n < 8
    · simp [h8]
    · obtain rfl : n = 8 := by omega
      simp
  cases hdir : w.getLsbD 8 with
  | false => rwa [hdir] at hbits
  | true => rwa [hdir] at hbits

theorem readFrom_decodeEvent {w : BitVec 9} {i : Instr} (h : decodeEvent w = .ok i) :
    ReadFrom .ev9 fsm cnt w.toNat i := by
  have hw := ev9_of_bits w
  unfold decodeEvent at h
  split_ifs at h with hzero hdir <;> cases h
  · rw [if_pos hdir] at hw
    exact ⟨bne_iff_ne.mpr hzero, rfl, fun _ => rfl, fun _ => congrArg BitVec.toNat hw⟩
  · rw [if_neg hdir] at hw
    exact ⟨bne_iff_ne.mpr hzero, rfl, fun _ => rfl, fun _ => congrArg BitVec.toNat hw⟩

theorem readFrom_decodeDiag {w : BitVec 2} {i : Instr} (h : decodeDiag w = .ok i) :
    ReadFrom .dg2 fsm cnt w.toNat i := by
  unfold decodeDiag at h
  split_ifs at h with hframing hchecksum <;> cases h
  · exact ⟨rfl, rfl, fun _ => rfl, fun _ => congrArg BitVec.toNat hframing.symm⟩
  · exact ⟨rfl, rfl, fun _ => rfl, fun _ => congrArg BitVec.toNat hchecksum.symm⟩

/-- A natural number in range is the number of a bit vector. -/
theorem exists_toNat_eq {n w : Nat} (hw : w < 2 ^ n) : ∃ v : BitVec n, v.toNat = w :=
  ⟨BitVec.ofNatLT w hw, rfl⟩

theorem readFrom_of_decode {f : Format} {w : Nat} {i : Instr} (h : decode f fsm cnt w = .ok i) :
    ReadFrom f fsm cnt w i := by
  have hw := lt_of_decode_ok h
  cases f with
  | rst1 =>
    rw [decode, if_pos hw] at h
    split_ifs at h with hone
    cases h
    exact ⟨rfl, rfl, fun _ => rfl, fun _ => hone.symm⟩
  | rx8 =>
    obtain ⟨b, rfl⟩ := exists_toNat_eq hw
    cases (decode_toNat_rx8 fsm cnt b).symm.trans h
    exact readFrom_classifyByte b
  | pkt64 =>
    rw [decode, if_pos hw] at h
    exact readFrom_decodePacket hw h
  | kc8 =>
    obtain ⟨k, rfl⟩ := exists_toNat_eq hw
    cases (decode_toNat_kc8 fsm cnt k).symm.trans h
    exact ⟨rfl, rfl, fun _ => rfl, fun _ => rfl⟩
  | poll32 =>
    obtain ⟨now, rfl⟩ := exists_toNat_eq hw
    cases (decode_toNat_poll32 fsm cnt now).symm.trans h
    exact ⟨rfl, rfl, fun _ => rfl, fun _ => rfl⟩
  | st5 =>
    rw [decode, if_pos hw] at h
    cases h
    exact ⟨rfl, rfl, fun _ => rfl, fun hst => absurd rfl hst⟩
  | tx40 =>
    rw [decode, if_pos hw] at h
    exact readFrom_decodeMessage h
  | ev9 =>
    obtain ⟨v, rfl⟩ := exists_toNat_eq hw
    exact readFrom_decodeEvent ((decode_toNat_ev9 fsm cnt v).symm.trans h)
  | dg2 =>
    obtain ⟨v, rfl⟩ := exists_toNat_eq hw
    exact readFrom_decodeDiag ((decode_toNat_dg2 fsm cnt v).symm.trans h)

end Read

/-- Settles O2: format by format, what the reader of the format accepts is allowed there and has the word read. -/
theorem decodedWordIsWellFormedAndUnique : Obligations.DecodedWordIsWellFormedAndUnique := fun _ _ _ _ _ h =>
  let ⟨hwf, hformat, hmode, hword⟩ := readFrom_of_decode h
  ⟨hwf, hformat, hmode, hword⟩

/-- A packet is given as eight bytes, so its bytes are read as its word (R70). -/
theorem decodeBytes_packet_bytes (p : Packet) (fsm : Fsm) (cnt : Count) :
    decodeBytes .pkt64 fsm cnt p.bytes = decode .pkt64 fsm cnt (packetWord p) := by
  have hlen : p.bytes.length = Format.byteLen .pkt64 := by simp [Packet.bytes, Format.byteLen, Format.width]
  rw [decodeBytes, if_pos hlen, packetWord]

/-- A packet has no class exactly when byte[0] is neither start marker (R71, R82). -/
theorem classifyPacket_eq_none_iff {p : Packet} :
    classifyPacket p = none ↔ p.start ≠ Const.startHeartbeat ∧ p.start ≠ Const.startKeyreport := by
  by_cases hhb : p.start = Const.startHeartbeat
  · simp [classifyPacket_of_startHeartbeat hhb, hhb]
  · by_cases hkr : p.start = Const.startKeyreport
    · simp [classifyPacket_of_startKeyreport hkr, hkr]
    · simp [classifyPacket, hhb, hkr]

/-- Settles O3: the bytes are read as the packet's word; that is the packet's class if it has one, and the rejection
if it has none. -/
theorem packetBytesDecodeToTheirClass : Obligations.PacketBytesDecodeToTheirClass := by
  intro p fsm cnt
  rw [decodeBytes_packet_bytes]
  refine ⟨fun i => decode_packetWord_of_class fsm cnt, Iff.trans ?_ classifyPacket_eq_none_iff⟩
  cases hclass : classifyPacket p with
  | none => simp [decode_packetWord_of_no_class fsm cnt hclass]
  | some i => simp [decode_packetWord_of_class fsm cnt hclass]

/-- Settles O4: each word is read in one evaluation of the decoder. -/
theorem publishedWordsDecode : Obligations.PublishedWordsDecode := by
  refine ⟨?_, ?_, ?_, ?_, ?_, ?_, ?_, ?_, ?_⟩ <;> decide

/-- Eight bytes that sum to 0 modulo 256 are those whose eighth is the checksum of the other seven (R110). -/
theorem checksum_eq_iff_sum (p : Packet) :
    checksum p = p.ck ↔ (p.start.toNat + p.hdr.toNat + p.rsv2.toNat + p.mod.toNat + p.keyA.toNat + p.keyB.toNat +
      p.rsv6.toNat + p.ck.toNat) % 256 = 0 := by
  have hck : p.ck.toNat < 256 := p.ck.isLt
  rw [← BitVec.toNat_inj, checksum_toNat]
  omega

/-- Settles O21: the checksum read on numbers, and the eight-byte sum it makes 0. -/
theorem checksumIsTheNegatedSum : Obligations.ChecksumIsTheNegatedSum := fun p =>
  ⟨checksum_toNat p, checksum_eq_iff_sum p⟩

/-- Settles O22: the packet's own checksum does not read byte[7], so the completed packet passes R82's last test. -/
theorem checksumRoundTripIsAccepted : Obligations.ChecksumRoundTripIsAccepted := fun p hstart hhdr =>
  classifyPacket_of_wf_keyreport (p := { p with ck := checksum p }) (wf_keyreport_iff.mpr ⟨hstart, hhdr, rfl⟩)

/-- Settles O7: under the port of each kind of stimulus the decoder reads what `decodeStimulus` makes of it. -/
theorem stepRunsTheDecodedStimulus : Obligations.StepRunsTheDecodedStimulus := by
  intro s
  refine ⟨?none, ?reset, ?byte, ?poll, ?translate, ?status⟩
  case none =>
    intro hin
    rw [step_of_no_input hin, ← hin]
    rfl
  case reset =>
    intro rest i hin h
    obtain rfl : Instr.reset = i := Except.ok.inj h
    exact step_of_input hin
  case byte =>
    intro b rest i hin h
    obtain rfl := Except.ok.inj ((decode_toNat_rx8 s.fsm s.cnt b).symm.trans h)
    exact step_of_input hin
  case poll =>
    intro now rest i hin h
    obtain rfl := Except.ok.inj ((decode_toNat_poll32 s.fsm s.cnt now).symm.trans h)
    exact step_of_input hin
  case translate =>
    intro k rest i hin h
    obtain rfl := Except.ok.inj ((decode_toNat_kc8 s.fsm s.cnt k).symm.trans h)
    exact step_of_input hin
  case status =>
    intro rest i hin h
    obtain rfl : Instr.status = i := Except.ok.inj h
    exact step_of_input hin

end Sys2Proof.Machine

/-! PROOF. What a step can do, said once (`StepEffect`), and what follows from it: totality, the invariant, the bound of
the output list, and the elements that a step leaves alone (spec/10_state.md, spec/60_exceptions.md). -/

namespace Sys2Proof.Machine

/-- The state that a reset leaves (R210). -/
def State.restored (s : State) : State :=
  { s with
    lastModifiers := 0
    lastKeySlot0 := 0
    lastKeySlot1 := 0
    peopleModeToggled := false
    shiftToggled := false
    lastKeepAliveTime := s.t0
    fsm := .idle
    cnt := 0
    buf := [] }.emit (.tx Const.initMsg)

theorem exec_reset (s : State) : exec .reset s = .next s.restored := rfl

/-- The state after one more byte is collected (R103). -/
def State.collectByte (s : State) (b : Byte) : State := { s.storeBuf s.cnt.toNat b with cnt := s.cnt + 1 }

/-- The timestamp after a poll that reads `now` (R193). -/
def nextTimestamp (now last : Clock) : Clock := if keepAliveDue now last then now else last

/-- What a poll that reads `now` emits (R193). -/
def keepAliveItems (now last : Clock) : List OutItem := if keepAliveDue now last then [.tx Const.kaMsg] else []

/-- The whole effect of a poll, which reads no other element than the timestamp (R193, R196). -/
theorem keepAlive_eq (now : Clock) (s : State) :
    keepAlive now s =
      { s with
        lastKeepAliveTime := nextTimestamp now s.lastKeepAliveTime
        out := s.out ++ keepAliveItems now s.lastKeepAliveTime } := by
  unfold keepAlive nextTimestamp keepAliveItems
  split
  · rfl
  · rw [List.append_nil]

/-- What a step from `s` can lead to, one constructor for each row that a stimulus decodes to, with the condition under
which the row is taken. -/
inductive StepEffect (s : State) : State → Prop
  | held (hin : s.input = []) : StepEffect s (s.beginStep [])
  | reset {rest : List Stimulus} (hin : s.input = .reset :: rest) : StepEffect s (s.beginStep rest).restored
  | opened {b : Byte} {rest : List Stimulus} (hin : s.input = .byte b :: rest)
      (hb : b = Const.startHeartbeat ∨ b = Const.startKeyreport) : StepEffect s (startPacket b (s.beginStep rest))
  | discarded {b : Byte} {rest : List Stimulus} (hin : s.input = .byte b :: rest) : StepEffect s (s.beginStep rest)
  | collected {b : Byte} {rest : List Stimulus} (hin : s.input = .byte b :: rest) (hfsm : s.fsm = .collecting)
      (hlt : s.cnt.toNat < 7) :
      StepEffect s ((s.beginStep rest).collectByte b)
  | heartbeat {b : Byte} {rest : List Stimulus} (hin : s.input = .byte b :: rest) :
      StepEffect s ((s.beginStep rest).storeBuf 7 b).returnToIdle
  | rejected {b : Byte} {rest : List Stimulus} (k : DiagKind) (hin : s.input = .byte b :: rest) :
      StepEffect s (((s.beginStep rest).storeBuf 7 b).returnToIdle.takeDiagnostic k)
  | accepted {b : Byte} {rest : List Stimulus} {p : Packet} (hin : s.input = .byte b :: rest)
      (hfsm : s.fsm = .collecting) (hcnt : s.cnt = 7) (hp : p = packetInBuffer s.buf b)
      (hstart : p.start ≠ Const.startHeartbeat) (hhdr : p.hdr = Const.header) (hck : checksum p = p.ck) :
      StepEffect s
        (keyUpdate p.keyA p.keyB (modUpdate (modifiersOf p) ((s.beginStep rest).storeBuf 7 b).returnToIdle))
  | polled {now : Clock} {rest : List Stimulus} (hin : s.input = .poll now :: rest) :
      StepEffect s (keepAlive now (s.beginStep rest))
  | answered {x : Stimulus} {rest : List Stimulus} (a : Answer) (hin : s.input = x :: rest)
      (hx : x = .status ∨ ∃ k, x = .translate k) : StepEffect s ((s.beginStep rest).reply a)

/-- The effect of a step that takes a byte: R100's tests, and R105's at the eighth byte. -/
theorem stepEffect_of_byte {s t : State} {b : Byte} {rest : List Stimulus} (hin : s.input = .byte b :: rest)
    (h : exec (classifyByte s.fsm s.cnt b) (s.beginStep rest) = .next t) : StepEffect s t := by
  rcases classifyByte_cases s.fsm s.cnt b with
    ⟨-, rfl, e⟩ | ⟨-, rfl, e⟩ | ⟨-, -, -, e⟩ | ⟨hfsm, hlt, e⟩ | ⟨hfsm, hcnt, e⟩ <;> rw [e] at h
  · cases h
    exact .opened hin (.inl rfl)
  · cases h
    exact .opened hin (.inr rfl)
  · cases h
    exact .discarded hin
  · cases h
    exact .collected hin hfsm hlt
  · rw [exec_complete] at h
    rcases validate_cases (packetInBuffer s.buf b) ((s.beginStep rest).storeBuf 7 b).returnToIdle with
      ⟨-, v⟩ | ⟨-, -, v⟩ | ⟨-, -, -, v⟩ | ⟨hstart, hhdr, hck, v⟩ <;> cases v.symm.trans h
    · exact .heartbeat hin
    · exact .rejected .framing hin
    · exact .rejected .checksum hin
    · exact .accepted hin hfsm (BitVec.eq_of_toNat_eq hcnt) rfl hstart hhdr hck

theorem stepEffect_of_step {s t : State} (h : step s = .next t) : StepEffect s t := by
  rcases step_cases h with ⟨hin, rfl⟩ | ⟨x, rest, hin, hexec⟩
  · exact .held hin
  · cases x with
    | reset =>
      cases hexec
      exact .reset hin
    | byte b => exact stepEffect_of_byte hin hexec
    | poll now =>
      cases hexec
      exact .polled hin
    | status =>
      cases hexec
      exact .answered _ hin (.inl rfl)
    | translate k =>
      cases hexec
      exact .answered _ hin (.inr ⟨k, rfl⟩)

/-- Settles O43: no branch of a step names the tables or `T0`. -/
theorem parametersAreNeverWritten : Obligations.ParametersAreNeverWritten := by
  intro s t h
  cases stepEffect_of_step h with
  | polled hin =>
    rw [keepAlive_eq]
    exact ⟨rfl, rfl⟩
  | _ => exact ⟨rfl, rfl⟩

/-- A poll keeps the five elements of R21 to R26 (R196). -/
theorem sameDecoderState_keepAlive (now : Clock) (s : State) : State.sameDecoderState s (keepAlive now s) := by
  rw [keepAlive_eq]
  exact ⟨rfl, rfl, rfl, rfl, rfl⟩

/-- Settles O31: of the branches of a step only a reset and an accepted report write the five elements; a completed
packet that is no heartbeat begins with the other start marker, by the invariant (R27). -/
theorem decoderStateWrittenOnlyByAcceptedReports : Obligations.DecoderStateWrittenOnlyByAcceptedReports := by
  intro s t hinv h
  cases stepEffect_of_step h with
  | reset hin => exact .inr (.inl ⟨_, hin⟩)
  | accepted hin hfsm hcnt hp hstart hhdr hck =>
    have hmarker : Memory.read s.buf 0 = Const.startKeyreport :=
      (hinv.marker hfsm).resolve_left fun hhb => hstart (hp ▸ hhb)
    have hwf : (Instr.keyreport _).wf = true := wf_keyreport_iff.mpr ⟨hp ▸ hmarker, hhdr, hck⟩
    exact .inr (.inr ⟨_, _, _, hin, hfsm, hcnt, hp, classifyPacket_of_wf_keyreport hwf⟩)
  | polled hin => exact .inl (sameDecoderState_keepAlive _ (s.beginStep _))
  | _ => exact .inl ⟨rfl, rfl, rfl, rfl, rfl⟩

/-- Validation ends in a next state, whatever the packet. -/
theorem validate_total (p : Packet) (s : State) : ∃ t, validate p s = .next t := by
  rcases validate_cases p s with ⟨-, v⟩ | ⟨-, -, v⟩ | ⟨-, -, -, v⟩ | ⟨-, -, -, v⟩ <;> exact ⟨_, v⟩

/-- From `Idle`, validation writes the five elements of R21 to R26 and the output list at most (R104, R189). -/
theorem validate_frame {p : Packet} {s t : State} (h : validate p s.returnToIdle = .next t) :
    t = { s.returnToIdle with
      lastModifiers := t.lastModifiers
      lastKeySlot0 := t.lastKeySlot0
      lastKeySlot1 := t.lastKeySlot1
      peopleModeToggled := t.peopleModeToggled
      shiftToggled := t.shiftToggled
      out := t.out } := by
  rcases validate_cases p s.returnToIdle with ⟨-, v⟩ | ⟨-, -, v⟩ | ⟨-, -, -, v⟩ | ⟨-, -, -, v⟩ <;>
    cases v.symm.trans h <;> rfl

/-- Every arm of `exec` ends in a next state (R184, R190). -/
theorem exec_total (i : Instr) (s : State) : ∃ t, exec i s = .next t := by
  cases i with
  | complete b => exact validate_total _ _
  | _ => exact ⟨_, rfl⟩

/-- Settles O8: without a stimulus a step holds the state, with one it is `exec` of some instruction. -/
theorem stepNeverStops : Obligations.StepNeverStops := by
  intro s
  cases hin : s.input with
  | nil => exact ⟨_, step_of_no_input hin⟩
  | cons x rest =>
    rw [step_of_input hin]
    exact exec_total _ _

/-- Settles O9: a step begins by clearing both fields. -/
theorem stepIgnoresEarlierOutput : Obligations.StepIgnoresEarlierOutput := fun _ _ _ => rfl

/-! The invariant, one lemma for each operation of a step. -/

section Invariant
variable {s : State} (hs : s.Inv)
include hs

theorem State.Inv.beginStep (rest : List Stimulus) : (s.beginStep rest).Inv :=
  { hs with outLegal := nofun }

theorem State.Inv.reply (a : Answer) : (s.reply a).Inv := { hs with }

theorem State.Inv.emitAll {xs : List OutItem} (hxs : ∀ x ∈ xs, OutItem.legal x) : (s.emitAll xs).Inv :=
  { hs with
    outLegal := fun x hx => (List.mem_append.mp hx).elim (hs.outLegal x) (hxs x) }

theorem State.Inv.emit {x : OutItem} (hx : x.legal) : (s.emit x).Inv :=
  hs.emitAll (xs := [x]) fun _ hy => List.mem_singleton.mp hy ▸ hx

theorem State.Inv.returnToIdle : s.returnToIdle.Inv :=
  { hs with
    sequencer := ⟨fun _ => rfl, fun _ => rfl⟩
    marker := nofun }

theorem State.Inv.takeDiagnostic (k : DiagKind) : (s.takeDiagnostic k).Inv := hs.returnToIdle.emit trivial

/-- Storing in any cell but the first keeps the start marker (R27). -/
theorem State.Inv.storeBuf {i : Nat} (hpos : i ≠ 0) (hlt : i < Const.pktLen) (b : Byte) : (s.storeBuf i b).Inv :=
  { hs with
    marker := fun hfsm => by
      rw [State.storeBuf_buf, Memory.read_write_ne s.buf b hpos.symm]
      exact hs.marker hfsm
    bufCanonical := Memory.wf_write hs.bufCanonical i b
    bufBound := Memory.within_write hs.bufBound hlt b }

theorem State.Inv.startPacket {b : Byte} (hb : b = Const.startHeartbeat ∨ b = Const.startKeyreport) :
    (startPacket b s).Inv :=
  { hs with
    sequencer := by simp
    marker := fun _ => by rwa [startPacket_buf, Memory.read_write_same]
    bufCanonical := Memory.wf_write hs.bufCanonical 0 b
    bufBound := Memory.within_write hs.bufBound (by decide) b }

/-- Collecting one more byte: the cell is not the first, since a packet in progress holds its marker, and the count does
not return to 0 (R27, R103). -/
theorem State.Inv.collectByte (hfsm : s.fsm = .collecting) (hlt : s.cnt.toNat < 7) (b : Byte) :
    (s.collectByte b).Inv := by
  have hcell : s.cnt.toNat ≠ 0 := fun h0 =>
    Fsm.noConfusion (hfsm.symm.trans (hs.sequencer.mpr (BitVec.eq_of_toNat_eq h0)))
  have hcnt : s.cnt + 1 ≠ 0 := fun h0 => by
    have := Count.toNat_add_one_of_le (Nat.le_of_lt_succ hlt)
    rw [h0] at this
    exact absurd this (Nat.succ_ne_zero _).symm
  exact { hs.storeBuf hcell (Nat.lt_succ_of_lt hlt) b with
    sequencer := ⟨fun h => Fsm.noConfusion (h.symm.trans hfsm), fun h => absurd h hcnt⟩ }

theorem State.Inv.modUpdate (m : Modifiers) : (modUpdate m s).Inv := { hs with }

theorem State.Inv.keyUpdate (a b : Byte) : (keyUpdate a b s).Inv :=
  { hs.emitAll (xs := keyEvents a b s.lastKeySlot0 s.lastKeySlot1) fun x hx => by
      rcases mem_keyEvents.mp hx with ⟨hnew, rfl⟩ | ⟨hnew, rfl⟩ | ⟨hnew, rfl⟩ | ⟨hnew, rfl⟩ <;>
        exact (isNewTo_iff.mp hnew).1 with }

theorem State.Inv.keepAlive (now : Clock) : (keepAlive now s).Inv := by
  rcases keepAlive_cases now s with ⟨-, hsent⟩ | ⟨-, hheld⟩
  · rw [hsent]
    exact { hs.emit (x := .tx Const.kaMsg) (.inr rfl) with }
  · rwa [hheld]

theorem State.Inv.restored : s.restored.Inv :=
  { hs.returnToIdle.emit (x := .tx Const.initMsg) (.inl rfl) with
    marker := nofun
    bufCanonical := Memory.wf_nil
    bufBound := nofun }

end Invariant

/-- Settles O11: every branch of a step is made of operations that keep the invariant. -/
theorem stepKeepsTheInvariant : Obligations.StepKeepsTheInvariant := by
  intro s t hs h
  cases stepEffect_of_step h with
  | held hin => exact hs.beginStep []
  | reset hin => exact (hs.beginStep _).restored
  | opened hin hb => exact (hs.beginStep _).startPacket hb
  | discarded hin => exact hs.beginStep _
  | collected hin hfsm hlt => exact (hs.beginStep _).collectByte hfsm hlt _
  | heartbeat hin => exact ((hs.beginStep _).storeBuf (by decide) (by decide) _).returnToIdle
  | rejected k hin => exact ((hs.beginStep _).storeBuf (by decide) (by decide) _).returnToIdle.takeDiagnostic k
  | accepted hin hfsm hcnt hp hstart hhdr hck =>
    exact (((hs.beginStep _).storeBuf (by decide) (by decide) _).returnToIdle.modUpdate _).keyUpdate _ _
  | polled hin => exact (hs.beginStep _).keepAlive _
  | answered a hin hx => exact (hs.beginStep _).reply a

/-- Settles O10: nothing is buffered, the tables are tabulated inside their bound, and the one item is a message. -/
theorem resetStateMeetsTheInvariant : Obligations.ResetStateMeetsTheInvariant where
  sequencer := ⟨fun _ => rfl, fun _ => rfl⟩
  marker := nofun
  bufCanonical := Memory.wf_nil
  bufBound := nofun
  romCanonical := Memory.wf_tabulate _ _
  romBound := Memory.within_tabulate _ _
  outLegal := fun _ hx => List.mem_singleton.mp hx ▸ .inl rfl

/-- What the output list of a step can be (R61): nothing, one diagnostic, one message, or the events of a report. -/
theorem step_out_cases {s t : State} (h : step s = .next t) :
    t.out = [] ∨ (∃ k, t.out = [.diag k]) ∨ (∃ m, t.out = [.tx m]) ∨ ∃ a b p0 p1, t.out = keyEvents a b p0 p1 := by
  cases stepEffect_of_step h with
  | reset hin => exact .inr (.inr (.inl ⟨_, rfl⟩))
  | rejected k hin => exact .inr (.inl ⟨k, rfl⟩)
  | accepted hin hfsm hcnt hp hstart hhdr hck => exact .inr (.inr (.inr ⟨_, _, _, _, rfl⟩))
  | @polled now rest hin =>
    rcases keepAlive_cases now (s.beginStep rest) with ⟨-, hsent⟩ | ⟨-, hheld⟩
    · rw [hsent]
      exact .inr (.inr (.inl ⟨_, rfl⟩))
    · rw [hheld]
      exact .inl rfl
  | _ => exact .inl rfl

/-- Four slots, at most one event each (R148 (e)). -/
theorem length_keyEvents_le (a b p0 p1 : Byte) : (keyEvents a b p0 p1).length ≤ 4 := by
  have := length_eventIf (isNewTo a p0 p1) a .down
  have := length_eventIf (isNewTo b p0 p1) b .down
  have := length_eventIf (isNewTo p0 a b) p0 .up
  have := length_eventIf (isNewTo p1 a b) p1 .up
  simp only [keyEvents, List.length_append]
  omega

/-- An item of a report's events is a key event with a code other than 0 (R149). -/
theorem exists_of_mem_keyEvents {a b p0 p1 : Byte} {x : OutItem} (hx : x ∈ keyEvents a b p0 p1) :
    ∃ c d, c ≠ 0 ∧ x = .keyEvent c d := by
  rcases mem_keyEvents.mp hx with ⟨hnew, rfl⟩ | ⟨hnew, rfl⟩ | ⟨hnew, rfl⟩ | ⟨hnew, rfl⟩ <;>
    exact ⟨_, _, (isNewTo_iff.mp hnew).1, rfl⟩

/-- Settles O37: the bound is read off each form that the output list can have. -/
theorem oneStepsOutputIsBounded : Obligations.OneStepsOutputIsBounded := by
  intro s t h
  rcases step_out_cases h with hout | ⟨k, hout⟩ | ⟨m, hout⟩ | ⟨a, b, p0, p1, hout⟩ <;> rw [hout]
  · simp
  · simp
  · simp
  · have hevent {x : OutItem} (hx : x ∈ keyEvents a b p0 p1) := exists_of_mem_keyEvents hx
    refine ⟨length_keyEvents_le a b p0 p1, fun d hd => ?_, fun k hk => ?_, fun m hm => ?_⟩
    · obtain ⟨c, _, hc, ⟨⟩⟩ := hevent hd
      exact hc rfl
    · obtain ⟨_, _, _, ⟨⟩⟩ := hevent hk
    · obtain ⟨_, _, _, ⟨⟩⟩ := hevent hm

end Sys2Proof.Machine

/-! PROOF. Unit KA (spec/60_exceptions.md R188, R193 to R196): the unit as a machine of its own, the two directions of
its independence, and what follows for a run and for a byte presented with a poll. -/

namespace Sys2Proof.Machine

/-- The timestamp after one step, from what the unit sees: its own register, `T0`, and the stimulus. -/
def unitTimestamp (last t0 : Clock) : List Stimulus → Clock
  | .reset :: _ => t0
  | .poll now :: _ => nextTimestamp now last
  | _ => last

/-- The messages of one step, from what the unit sees. -/
def unitMessages (last : Clock) : List Stimulus → List OutItem
  | .reset :: _ => [.tx Const.initMsg]
  | .poll now :: _ => keepAliveItems now last
  | _ => []

theorem filter_isTx_keepAliveItems (now last : Clock) :
    (keepAliveItems now last).filter OutItem.isTx = keepAliveItems now last := by
  unfold keepAliveItems
  split <;> rfl

theorem filter_not_isTx_keepAliveItems (now last : Clock) :
    (keepAliveItems now last).filter (fun x => !x.isTx) = [] := by
  unfold keepAliveItems
  split <;> rfl

theorem filter_isTx_keyEvents (a b p0 p1 : Byte) : (keyEvents a b p0 p1).filter OutItem.isTx = [] := by
  refine List.filter_eq_nil_iff.mpr fun x hx => ?_
  obtain ⟨c, d, -, rfl⟩ := exists_of_mem_keyEvents hx
  exact Bool.false_ne_true

/-- A step as the unit sees it: what becomes of the unit is a function of the unit and of the stimulus (R196). -/
theorem step_unit {s t : State} (h : step s = .next t) :
    t.lastKeepAliveTime = unitTimestamp s.lastKeepAliveTime s.t0 s.input ∧ t.input = s.input.tail ∧
      t.out.filter OutItem.isTx = unitMessages s.lastKeepAliveTime s.input := by
  cases stepEffect_of_step h with
  | accepted hin =>
    rw [hin]
    exact ⟨rfl, rfl, filter_isTx_keyEvents _ _ _ _⟩
  | polled hin =>
    rw [keepAlive_eq, hin]
    exact ⟨rfl, rfl, filter_isTx_keepAliveItems _ _⟩
  | answered a hin hx =>
    rw [hin]
    rcases hx with rfl | ⟨k, rfl⟩ <;> exact ⟨rfl, rfl, rfl⟩
  | held hin | reset hin | opened hin | discarded hin | collected hin | heartbeat hin | rejected _ hin =>
    rw [hin]
    exact ⟨rfl, rfl, rfl⟩

/-- A function on states that a diagnostic and an accepted report do not see passes through `Validate`. -/
theorem validate_map {f : State → State} (hdiag : ∀ u k, (f u).takeDiagnostic k = f (u.takeDiagnostic k))
    (hreport : ∀ u m a b, keyUpdate a b (modUpdate m (f u)) = f (keyUpdate a b (modUpdate m u))) {p : Packet}
    {s t : State} (h : validate p s = .next t) : validate p (f s) = .next (f t) := by
  unfold validate execHeartbeat execFrameerr execCkerr execKeyreport at h ⊢
  split_ifs at h ⊢ <;> cases h
  · rfl
  · rw [hdiag]
  · rw [hdiag]
  · rw [hreport]

/-- `s` with another keep-alive register, another `T0` and other stimuli to come. -/
def State.withUnit (s : State) (last t0 : Clock) (rest : List Stimulus) : State :=
  { s with lastKeepAliveTime := last, t0 := t0, input := rest }

/-- No class of inbound byte reads the keep-alive unit or the stimuli to come (R196). -/
theorem exec_byte_withUnit {fsm : Fsm} {cnt : Count} {b : Byte} {s t : State} (last t0 : Clock) (rest : List Stimulus)
    (h : exec (classifyByte fsm cnt b) s = .next t) :
    exec (classifyByte fsm cnt b) (s.withUnit last t0 rest) = .next (t.withUnit last t0 rest) := by
  rcases classifyByte_cases fsm cnt b with
    ⟨-, -, e⟩ | ⟨-, -, e⟩ | ⟨-, -, -, e⟩ | ⟨-, -, e⟩ | ⟨-, -, e⟩ <;> rw [e] at h ⊢
  · cases h
    rfl
  · cases h
    rfl
  · cases h
    rfl
  · cases h
    rfl
  · exact validate_map (f := fun u => u.withUnit last t0 rest) (fun _ _ => rfl) (fun _ _ _ _ => rfl) h

/-- The rest of the block does not read the unit (R196). -/
theorem agreeOffKeepAlive_step {s t s' : State} (hagree : State.agreeOffKeepAlive s t) (h : step s = .next s') :
    ∃ t', step t = .next t' ∧ State.agreeOffKeepAlive s' t' := by
  obtain ⟨last, t0, out, rfl⟩ :
      ∃ last t0 out, t = { s with lastKeepAliveTime := last, t0 := t0, out := out } := ⟨_, _, _, hagree.1⟩
  rcases step_cases h with ⟨hin, rfl⟩ | ⟨x, rest, hin, hexec⟩
  · exact ⟨_, step_of_no_input hin, rfl, rfl⟩
  · rw [step_of_input (s := { s with lastKeepAliveTime := last, t0 := t0, out := out }) hin]
    cases x with
    | reset =>
      cases hexec
      exact ⟨_, rfl, rfl, rfl⟩
    | byte b =>
      have hinput : s'.input = rest := by
        rw [(step_unit h).2.1, hin, List.tail_cons]
      subst hinput
      exact ⟨_, exec_byte_withUnit last t0 s'.input hexec, rfl, rfl⟩
    | poll now =>
      cases hexec
      refine ⟨_, rfl, ?_, ?_⟩
      · rw [keepAlive_eq, keepAlive_eq]
        rfl
      · simp only [keepAlive_eq, State.beginStep_out, List.nil_append, filter_not_isTx_keepAliveItems]
    | status =>
      cases hexec
      exact ⟨_, rfl, rfl, rfl⟩
    | translate k =>
      cases hexec
      exact ⟨_, rfl, rfl, rfl⟩

/-- The unit does not read the rest of the block (R196). -/
theorem agreeOnKeepAlive_step {s t s' : State} (hagree : State.agreeOnKeepAlive s t) (h : step s = .next s') :
    ∃ t', step t = .next t' ∧ State.agreeOnKeepAlive s' t' := by
  obtain ⟨hlast, ht0, hin, -⟩ := hagree
  obtain ⟨t', ht⟩ := stepNeverStops t
  obtain ⟨slast, sin, sout⟩ := step_unit h
  obtain ⟨tlast, tin, tout⟩ := step_unit ht
  refine ⟨t', ht, ?_, ?_, ?_, ?_⟩
  · rw [tlast, slast, hlast, ht0, hin]
  · rw [(parametersAreNeverWritten t t' ht).2, (parametersAreNeverWritten s s' h).2, ht0]
  · rw [tin, sin, hin]
  · rw [tout, sout, hlast, hin]

/-- Without a reset and a poll the unit stands still (R196). -/
theorem unit_of_no_reset_no_poll {input : List Stimulus} (last t0 : Clock) (hreset : ∀ rest, input ≠ .reset :: rest)
    (hpoll : ∀ now rest, input ≠ .poll now :: rest) :
    unitTimestamp last t0 input = last ∧ unitMessages last input = [] := by
  cases input with
  | nil => exact ⟨rfl, rfl⟩
  | cons x rest =>
    cases x with
    | reset => exact absurd rfl (hreset rest)
    | poll now => exact absurd rfl (hpoll now rest)
    | _ => exact ⟨rfl, rfl⟩

/-- Settles O47: the two relational lemmas, the effect of a poll, and the unit at rest. -/
theorem keepAliveUnitIsIndependent : Obligations.KeepAliveUnitIsIndependent := by
  refine ⟨fun _ _ _ => agreeOffKeepAlive_step, ?polled, fun _ _ _ => agreeOnKeepAlive_step, ?atRest⟩
  case polled =>
    intro s t now rest hin h
    rw [step_of_input hin] at h
    cases h
    refine ⟨?_, ?_⟩
    · rw [keepAlive_eq]
      rfl
    · simp only [keepAlive_eq, State.beginStep_out, List.nil_append, filter_not_isTx_keepAliveItems, List.filter_nil]
  case atRest =>
    intro s t h hreset hpoll
    obtain ⟨hlast, -, hout⟩ := step_unit h
    obtain ⟨hkept, hnone⟩ := unit_of_no_reset_no_poll s.lastKeepAliveTime s.t0 hreset hpoll
    refine ⟨hlast.trans hkept, fun m hm => ?_⟩
    have htx : .tx m ∈ t.out.filter OutItem.isTx := List.mem_filter.mpr ⟨hm, rfl⟩
    rw [hout, hnone] at htx
    exact absurd htx List.not_mem_nil

/-- One stimulus of a run: either its step sends nothing and keeps the timestamp, or it is a poll that is due, whose
reading is the one send time and the new timestamp (R193). -/
theorem sendTime_cases {x : Stimulus} {s t : State} (hx : x ≠ .reset) (h : step { s with input := [x] } = .next t) :
    (sendTime x t = [] ∧ t.lastKeepAliveTime = s.lastKeepAliveTime) ∨
      ∃ now, sendTime x t = [now] ∧ t.lastKeepAliveTime = now ∧ Const.kaPeriodMs < now - s.lastKeepAliveTime := by
  obtain ⟨hlast, -, -⟩ := step_unit h
  cases x with
  | reset => exact absurd rfl hx
  | poll now =>
    have hsent : .tx Const.kaMsg ∈ t.out ↔ Const.kaPeriodMs < now - s.lastKeepAliveTime := by
      simp [kaMsg_mem_step_out h]
    by_cases hdue : Const.kaPeriodMs < now - s.lastKeepAliveTime
    · exact .inr ⟨now, if_pos (hsent.mpr hdue), hlast.trans (if_pos (decide_eq_true hdue)), hdue⟩
    · exact .inl ⟨if_neg (mt hsent.mp hdue), hlast.trans (if_neg (mt of_decide_eq_true hdue))⟩
  | byte b => exact .inl ⟨rfl, hlast⟩
  | status => exact .inl ⟨rfl, hlast⟩
  | translate k => exact .inl ⟨rfl, hlast⟩

/-- Settles O45, by induction on the stimuli: a step that sends nothing hands the timestamp on, one that sends makes it
the reading that the next send time is compared with. -/
theorem keepAlivesAreMoreThanOneSecondApart : Obligations.KeepAlivesAreMoreThanOneSecondApart := by
  intro xs
  induction xs with
  | nil => exact fun s _ => List.isChain_singleton _
  | cons x xs ih =>
    intro s hreset
    have hx : x ≠ .reset := (List.ne_of_not_mem_cons hreset).symm
    have hxs : .reset ∉ xs := List.not_mem_of_not_mem_cons hreset
    obtain ⟨t, ht⟩ := stepNeverStops { s with input := [x] }
    have hchain := ih t hxs
    simp only [sendTimes, ht]
    rcases sendTime_cases hx ht with ⟨hnone, hlast⟩ | ⟨now, hsent, rfl, hdue⟩
    · rwa [hnone, List.nil_append, ← hlast]
    · rw [hsent]
      exact List.isChain_cons_cons.mpr ⟨hdue, hchain⟩

/-- Only a query answers: every class of inbound byte keeps the answer (R8). -/
theorem exec_byte_answer {fsm : Fsm} {cnt : Count} {b : Byte} {s t : State}
    (h : exec (classifyByte fsm cnt b) s = .next t) : t.answer = s.answer := by
  rcases classifyByte_cases fsm cnt b with
    ⟨-, -, e⟩ | ⟨-, -, e⟩ | ⟨-, -, -, e⟩ | ⟨-, -, e⟩ | ⟨-, -, e⟩ <;> rw [e] at h
  · cases h
    rfl
  · cases h
    rfl
  · cases h
    rfl
  · cases h
    rfl
  · rw [validate_frame h]
    rfl

/-- Settles O46: a byte does not read the unit and a poll reads nothing but the timestamp, so each does after the other
what it does alone. -/
theorem byteAndPollCommute : Obligations.ByteAndPollCommute := by
  intro s b now rest
  obtain ⟨t, ht, hlast, ht0, hin, -⟩ := exec_byte_keepAlive b s.fsm s.cnt (s.beginStep (.poll now :: rest))
  have hafter := exec_byte_withUnit (nextTimestamp now s.lastKeepAliveTime) s.t0 rest ht
  refine ⟨t, keepAlive now (t.beginStep rest), keepAlive now (s.beginStep (.byte b :: rest)),
    t.withUnit (nextTimestamp now s.lastKeepAliveTime) s.t0 rest, ht, step_of_input hin, rfl, ?byteLast, rfl, ?items,
    ?state⟩
  case byteLast =>
    rw [keepAlive_eq, step_of_input (x := .byte b) (rest := rest) rfl]
    exact hafter
  case items =>
    rw [keepAlive_eq, keepAlive_eq, State.beginStep_lastKeepAliveTime, hlast]
    rfl
  case state =>
    rw [keepAlive_eq, State.beginStep_lastKeepAliveTime, hlast]
    simp only [State.withUnit, State.beginStep, exec_byte_answer ht, ht0]

end Sys2Proof.Machine

/-! PROOF. Whole packets (spec/40_framer.md R100 to R104, spec/10_state.md R27, R28): the bytes a packet still lacks,
taken one by one, and the cells of the buffer that no step reads. -/

namespace Sys2Proof.Machine

/-- The buffer after the bytes `bs` are stored in the cells from `n` on (R103). -/
def storeBytes (m : Memory) (n : Nat) : List Byte → Memory
  | [] => m
  | b :: bs => storeBytes (Memory.write m n b) (n + 1) bs

/-- A cell outside the stored range is as before. -/
theorem read_storeBytes_of_outside (m : Memory) (n : Nat) (bs : List Byte) {a : Nat} (h : a < n ∨ n + bs.length ≤ a) :
    Memory.read (storeBytes m n bs) a = Memory.read m a := by
  induction bs generalizing m n with
  | nil => rfl
  | cons b bs ih =>
    rw [List.length_cons] at h
    rw [storeBytes, ih _ _ (by omega), Memory.read_write_ne m b (by omega)]

/-- The cells of the stored range hold the bytes in order. -/
theorem read_storeBytes (m : Memory) (n : Nat) (bs : List Byte) {k : Nat} {b : Byte} (h : bs[k]? = some b) :
    Memory.read (storeBytes m n bs) (n + k) = b := by
  induction bs generalizing m n k with
  | nil => cases h
  | cons c bs ih =>
    cases k with
    | zero =>
      cases h
      rw [storeBytes, read_storeBytes_of_outside _ _ _ (.inl (by omega)), Nat.add_zero, Memory.read_write_same]
    | succ k =>
      have := ih (Memory.write m n c) (n + 1) (k := k) h
      rwa [storeBytes, Nat.add_comm k, ← Nat.add_assoc]

/-- The packet in progress is bytes 0 to 6 of the buffer, so a store in cell 7 does not change it (R104). -/
theorem packetInBuffer_write_seven (m : Memory) (b : Byte) :
    packetInBuffer (Memory.write m 7 b) (Memory.read (Memory.write m 7 b) 7) = packetInBuffer m b := by
  simp [packetInBuffer, Memory.read_write]

/-- The packet that the buffer holds once its eight bytes are stored is the packet they came from (R50, R70). -/
theorem packetInBuffer_storeBytes (m : Memory) (p : Packet) :
    packetInBuffer (storeBytes m 0 p.bytes) (Memory.read (storeBytes m 0 p.bytes) 7) = p := by
  have hread {k : Nat} {b : Byte} (h : p.bytes[k]? = some b) : Memory.read (storeBytes m 0 p.bytes) k = b := by
    simpa using read_storeBytes m 0 p.bytes h
  simp only [packetInBuffer, hread (k := 0) rfl, hread (k := 1) rfl, hread (k := 2) rfl, hread (k := 3) rfl,
    hread (k := 4) rfl, hread (k := 5) rfl, hread (k := 6) rfl, hread (k := 7) rfl]

/-- Settles O15: the eighth byte's meaning is `Validate` from `Idle`, which runs the packet's class. -/
theorem eighthByteCompletesThePacket : Obligations.EighthByteCompletesThePacket := by
  intro s b p i _ _ hp hclass
  have hrun : exec (.complete b) s = exec i (s.storeBuf 7 b).returnToIdle := by
    rw [exec_complete, ← validate_eq_exec hclass, hp]
    rfl
  obtain ⟨t, ht⟩ := exec_total i (s.storeBuf 7 b).returnToIdle
  have hframe := validate_frame ((validate_eq_exec hclass _).trans ht)
  obtain ⟨hsame, hother⟩ := s.storeBuf_read 7 b
  exact ⟨(s.storeBuf 7 b).returnToIdle, t, rfl, hsame, hother, hrun.trans ht, ht, (congrArg State.fsm hframe :),
    (congrArg State.cnt hframe :), (congrArg State.buf hframe :)⟩

/-- The host's run of the machine. -/
def run (k : Nat) (s : State) : Host.Outcome State Fault Refusal := Host.Core.run Sys2Proof.core k s

theorem run_succ {s t : State} (k : Nat) (h : step s = .next t) : run (k + 1) s = run k t := by
  have hcore : Sys2Proof.core.step s = .next t := h
  simp only [run, Host.Core.run, hcore]
  rfl

theorem run_one (s : State) : run 1 s = step s := by
  obtain ⟨t, ht⟩ := stepNeverStops s
  rw [run_succ 0 ht, ht]
  rfl

/-- The validation, from `Idle`, of the packet that the buffer `m` holds in full (R104, R105). -/
def validateBuffer (m : Memory) (s : State) : Host.Outcome State Fault Refusal :=
  validate (packetInBuffer m (Memory.read m 7)) ({ s with buf := m } : State).returnToIdle

theorem validateBuffer_write_seven (s : State) (b : Byte) :
    validateBuffer (Memory.write s.buf 7 b) s = validate (packetInBuffer s.buf b) (s.storeBuf 7 b).returnToIdle :=
  congrArg (validate · (s.storeBuf 7 b).returnToIdle) (packetInBuffer_write_seven s.buf b)

/-- The bytes a packet in progress lacks, taken one by one, end in the validation of the packet that the buffer then
holds, by induction on these bytes (R81, R103, R104). -/
theorem run_of_collecting {s : State} {bs : List Byte} {rest : List Stimulus} (hfsm : s.fsm = .collecting)
    (hlen : bs.length + s.cnt.toNat = 8) (hin : s.input = bs.map .byte ++ rest) :
    run bs.length s = validateBuffer (storeBytes s.buf s.cnt.toNat bs) (s.beginStep rest) := by
  induction bs generalizing s with
  | nil => exact absurd s.cnt.isLt (Nat.not_lt.mpr (hlen.symm.trans (Nat.zero_add _)).le)
  | cons b bs ih =>
    have hin : s.input = .byte b :: (bs.map .byte ++ rest) := hin
    rw [List.length_cons] at hlen ⊢
    by_cases hlt : s.cnt.toNat < 7
    · have hcnt : (s.cnt + 1).toNat = s.cnt.toNat + 1 := Count.toNat_add_one_of_le (Nat.le_of_lt_succ hlt)
      have hstep : step s = .next ((s.beginStep (bs.map .byte ++ rest)).collectByte b) :=
        step_byte_of_collecting hin hfsm hlt
      have hlen' : bs.length + (s.cnt + 1).toNat = 8 := by omega
      calc run (bs.length + 1) s
        _ = run bs.length ((s.beginStep (bs.map .byte ++ rest)).collectByte b) := run_succ _ hstep
        _ = validateBuffer (storeBytes (Memory.write s.buf s.cnt.toNat b) (s.cnt + 1).toNat bs) (s.beginStep rest) :=
          ih hfsm hlen' rfl
        _ = validateBuffer (storeBytes s.buf s.cnt.toNat (b :: bs)) (s.beginStep rest) := by rw [hcnt, storeBytes]
    · have hseven : s.cnt = 7 := BitVec.eq_of_toNat_eq (show s.cnt.toNat = 7 by omega)
      obtain rfl : bs = [] := List.eq_nil_of_length_eq_zero (by omega)
      rw [hseven]
      calc run 1 s
        _ = step s := run_one s
        _ = validate (packetInBuffer s.buf b) ((s.beginStep rest).storeBuf 7 b).returnToIdle :=
          step_byte_of_seven hin hfsm hseven
        _ = validateBuffer (Memory.write s.buf 7 b) (s.beginStep rest) :=
          (validateBuffer_write_seven (s.beginStep rest) b).symm

/-- Settles O25: the run ends in a validation from `Idle`, which keeps the sequencer and the stimuli to come. -/
theorem packetEndsAfterEightBytes : Obligations.PacketEndsAfterEightBytes := by
  intro s bs rest hfsm hlen hin
  have hrun := run_of_collecting hfsm hlen hin
  obtain ⟨t, ht⟩ : ∃ t, validateBuffer _ _ = .next t := validate_total _ _
  have hframe := validate_frame ht
  exact ⟨t, hrun.trans ht, (congrArg State.fsm hframe :), (congrArg State.cnt hframe :),
    (congrArg State.input hframe :)⟩

/-- A packet that has a class begins with a start marker (R71, R82). -/
theorem start_of_classifyPacket {p : Packet} {i : Instr} (h : classifyPacket p = some i) :
    p.start = Const.startHeartbeat ∨ p.start = Const.startKeyreport := by
  by_contra hne
  cases h.symm.trans (classifyPacket_eq_none_iff.mpr (not_or.mp hne))

/-- A start marker taken in `Idle` opens a packet (R101). -/
theorem step_startMarker {s : State} {b : Byte} {rest : List Stimulus} (hin : s.input = .byte b :: rest)
    (hfsm : s.fsm = .idle) (hb : b = Const.startHeartbeat ∨ b = Const.startKeyreport) :
    step s = .next (startPacket b (s.beginStep rest)) := by
  rw [step_of_input hin, hfsm]
  rcases hb with rfl | rfl <;> rfl

/-- Settles O26: byte[0] opens the packet, the other seven are what it lacks, and the buffer then holds the packet. -/
theorem eightBytesRunThePacketClass : Obligations.EightBytesRunThePacketClass := by
  intro s p i rest hfsm hcnt hclass hin
  have hopen : step s = .next (startPacket p.start (s.beginStep (p.bytes.tail.map .byte ++ rest))) :=
    step_startMarker hin hfsm (start_of_classifyPacket hclass)
  have hlacking := run_of_collecting (s := startPacket p.start (s.beginStep (p.bytes.tail.map .byte ++ rest)))
    (bs := p.bytes.tail) (rest := rest) rfl rfl rfl
  have hrun : run 8 s = validateBuffer (storeBytes s.buf 0 p.bytes) (s.beginStep rest) :=
    (run_succ 7 hopen).trans hlacking
  have hexec (u : State) : validate (packetInBuffer (storeBytes s.buf 0 p.bytes)
      (Memory.read (storeBytes s.buf 0 p.bytes) 7)) u = exec i u := by
    rw [packetInBuffer_storeBytes, validate_eq_exec hclass]
  obtain ⟨t, ht⟩ := exec_total i ({ s.beginStep rest with buf := storeBytes s.buf 0 p.bytes } : State).returnToIdle
  refine ⟨_, t, hrun.trans ((hexec _).trans ht), ht, ?frame, ?bytes, ?above⟩
  case frame => simp only [State.returnToIdle, State.beginStep, hfsm, hcnt]
  case bytes =>
    intro a b hb
    have := read_storeBytes s.buf 0 p.bytes hb
    rwa [Nat.zero_add] at this
  case above => exact fun a ha => read_storeBytes_of_outside s.buf 0 p.bytes (.inr ha)

/-! The cells from `cnt` on (R28): a step of two states that differ only there. -/

/-- Two buffers that agree on the cells below `n` still do after the same store in one of them, and on the cell stored
to. -/
theorem read_write_congr {m m' : Memory} {n : Nat} (b : Byte)
    (h : ∀ a, a < n → Memory.read m' a = Memory.read m a) :
    ∀ a, a < n + 1 → Memory.read (Memory.write m' n b) a = Memory.read (Memory.write m n b) a := by
  intro a ha
  rw [Memory.read_write, Memory.read_write]
  split
  · rfl
  · exact h a (by omega)

/-- The packet in progress is made of cells 0 to 6. -/
theorem packetInBuffer_congr {m m' : Memory} (b : Byte) (h : ∀ a, a < 7 → Memory.read m' a = Memory.read m a) :
    packetInBuffer m' b = packetInBuffer m b := by
  simp only [packetInBuffer, h 0 (by decide), h 1 (by decide), h 2 (by decide), h 3 (by decide), h 4 (by decide),
    h 5 (by decide), h 6 (by decide)]

/-- In `Idle` no cell is observable. -/
theorem agreeOnPacket_of_idle {s : State} (m : Memory) (hfsm : s.fsm = .idle) :
    State.agreeOnPacket s { s with buf := m } :=
  ⟨rfl, fun h => Fsm.noConfusion (hfsm.symm.trans h)⟩

/-- Opening a packet stores the one cell that becomes observable. -/
theorem agreeOnPacket_startPacket (m : Memory) (marker : Byte) (s : State) :
    State.agreeOnPacket (startPacket marker s) (startPacket marker { s with buf := m }) :=
  ⟨rfl, fun _ => read_write_congr (n := 0) marker fun _ ha => absurd ha (Nat.not_lt_zero _)⟩

/-- No class of inbound byte reads a cell from the count on. -/
theorem exec_byte_agreeOnPacket {s t : State} {m : Memory} {b : Byte}
    (hm : s.fsm = .collecting → ∀ a, a < s.cnt.toNat → Memory.read m a = Memory.read s.buf a)
    (h : exec (classifyByte s.fsm s.cnt b) s = .next t) :
    ∃ t', exec (classifyByte s.fsm s.cnt b) { s with buf := m } = .next t' ∧ State.agreeOnPacket t t' := by
  rcases classifyByte_cases s.fsm s.cnt b with
    ⟨-, -, e⟩ | ⟨-, -, e⟩ | ⟨hfsm, -, -, e⟩ | ⟨hfsm, hlt, e⟩ | ⟨hfsm, hcnt, e⟩ <;> rw [e] at h ⊢
  · cases h
    exact ⟨_, rfl, agreeOnPacket_startPacket m Const.startHeartbeat s⟩
  · cases h
    exact ⟨_, rfl, agreeOnPacket_startPacket m Const.startKeyreport s⟩
  · cases h
    exact ⟨_, rfl, agreeOnPacket_of_idle m hfsm⟩
  · cases h
    have hcnt : (s.cnt + 1).toNat = s.cnt.toNat + 1 := Count.toNat_add_one_of_le (Nat.le_of_lt_succ hlt)
    exact ⟨_, rfl, rfl, fun _ a ha => read_write_congr b (hm hfsm) a (hcnt ▸ ha)⟩
  · have hpacket : packetInBuffer m b = packetInBuffer s.buf b := packetInBuffer_congr b (hcnt ▸ hm hfsm)
    rw [exec_complete, hpacket]
    exact ⟨_, validate_map (f := fun u => { u with buf := Memory.write m 7 b }) (fun _ _ => rfl)
      (fun _ _ _ _ => rfl) h, agreeOnPacket_of_idle _ (congrArg State.fsm (validate_frame h) :)⟩

/-- Settles O48: a byte is `exec_byte_agreeOnPacket`, a reset empties both buffers, and nothing else names
the buffer. -/
theorem bufferTailIsUnobservable : Obligations.BufferTailIsUnobservable := by
  intro s t s' ⟨hbut, hcells⟩ h
  obtain ⟨m, rfl⟩ : ∃ m, t = { s with buf := m } := ⟨_, hbut⟩
  rcases step_cases h with ⟨hin, rfl⟩ | ⟨x, rest, hin, hexec⟩
  · exact ⟨_, step_of_no_input hin, rfl, hcells⟩
  · rw [step_of_input (s := { s with buf := m }) hin]
    cases x with
    | reset =>
      cases hexec
      exact ⟨_, rfl, rfl, fun _ _ _ => rfl⟩
    | byte b => exact exec_byte_agreeOnPacket (s := s.beginStep rest) hcells hexec
    | poll now =>
      cases hexec
      refine ⟨_, rfl, ?_⟩
      rw [keepAlive_eq, keepAlive_eq]
      exact ⟨rfl, hcells⟩
    | status =>
      cases hexec
      exact ⟨_, rfl, rfl, hcells⟩
    | translate k =>
      cases hexec
      exact ⟨_, rfl, rfl, hcells⟩

end Sys2Proof.Machine

/-! PROOF. An accepted report (spec/41_modifiers.md, spec/42_keyslots.md): its whole effect, and the two edges and the
key events read off it. -/

namespace Sys2Proof.Machine

/-- A flag that is inverted under a condition is their exclusive or. -/
theorem ite_not_eq_xor (c b : Bool) : (if c then !b else b) = (b ^^ c) := by
  cases c <;> simp

/-- R122 in an accepted report. -/
theorem keyreport_peopleModeToggled (p : Packet) (s : State) :
    (keyUpdate p.keyA p.keyB (modUpdate (modifiersOf p) s)).peopleModeToggled =
      (s.peopleModeToggled ^^ (p.mod.getLsbD 3 && !s.lastModifiers.getLsbD 3)) := by
  rw [keyUpdate_peopleModeToggled, modUpdate_peopleModeToggled, peopleEdge_modifiersOf, ite_not_eq_xor]

theorem keyreport_shiftToggled_xor (p : Packet) (s : State) :
    (keyUpdate p.keyA p.keyB (modUpdate (modifiersOf p) s)).shiftToggled =
      (s.shiftToggled ^^ (p.mod.getLsbD 0 && p.mod.getLsbD 2)) := by
  rw [keyreport_shiftToggled, ite_not_eq_xor]

theorem keyreport_lastModifiers (p : Packet) (s : State) :
    (keyUpdate p.keyA p.keyB (modUpdate (modifiersOf p) s)).lastModifiers = p.mod.setWidth 4 := by
  rw [keyUpdate_lastModifiers, modUpdate_lastModifiers, modifiersOf_eq]

/-- Two codes under one test: the events of those that pass, in order. -/
theorem eventIf_append_eventIf (test : Byte → Bool) (c e : Byte) (d : Dir) :
    eventIf (test c) c d ++ eventIf (test e) e d = ([c, e].filter test).map (.keyEvent · d) := by
  simp only [List.filter_cons, List.filter_nil]
  cases test c <;> cases test e <;> rfl

theorem isNewTo_eq_decide (x y : Byte) : (isNewTo · x y) = fun c => decide (c ≠ 0 ∧ c ≠ x ∧ c ≠ y) := by
  funext c
  rw [Bool.eq_iff_iff, isNewTo_iff, decide_eq_true_eq]

/-- The events of a report: Downs of its new codes, then Ups of the old ones it lacks (R145). -/
theorem keyEvents_eq_filter (a b p0 p1 : Byte) :
    keyEvents a b p0 p1 =
      ([a, b].filter (fun c => c ≠ 0 ∧ c ≠ p0 ∧ c ≠ p1)).map (.keyEvent · .down) ++
        ([p0, p1].filter (fun c => c ≠ 0 ∧ c ≠ a ∧ c ≠ b)).map (.keyEvent · .up) := by
  rw [← isNewTo_eq_decide, ← isNewTo_eq_decide, ← eventIf_append_eventIf, ← eventIf_append_eventIf, keyEvents,
    List.append_assoc _ (eventIf _ p0 .up)]

/-- Settles O20: the modifier update and the key update, each element by its own equation. -/
theorem acceptedReportUpdatesTheDecoder : Obligations.AcceptedReportUpdatesTheDecoder := by
  intro s p _ _ _
  rw [exec_keyreport, ← keyreport_lastModifiers p s, ← keyreport_peopleModeToggled, ← keyreport_shiftToggled_xor,
    ← keyEvents_eq_filter]
  rfl

/-- Settles O23: of byte[3] a report uses its low four bits alone, and of the reserved bytes nothing. -/
theorem reservedBitsHaveNoEffect : Obligations.ReservedBitsHaveNoEffect := by
  intro s p q _ _ hA hB hmod
  rw [exec_keyreport, exec_keyreport, modifiersOf_eq, modifiersOf_eq, hA, hB, hmod]

/-- A report after one with the People bit set leaves People mode alone (S6). -/
theorem keyreport_peopleModeToggled_of_held {q : Packet} {s : State} (hlast : s.lastModifiers.getLsbD 3 = true) :
    (keyUpdate q.keyA q.keyB (modUpdate (modifiersOf q) s)).peopleModeToggled = s.peopleModeToggled := by
  rw [keyreport_peopleModeToggled, hlast, Bool.not_true, Bool.and_false, Bool.xor_false]

/-- Settles O27: the exclusive or with the edge flips on the edge alone. -/
theorem peopleModeFlipsOnTheRisingEdge : Obligations.PeopleModeFlipsOnTheRisingEdge := by
  intro s p _
  refine ⟨_, exec_keyreport s p, ?flipped, ?kept⟩
  case flipped =>
    intro hlast hnew
    rw [keyreport_peopleModeToggled, hlast, hnew]
    exact Bool.xor_true _
  case kept =>
    rintro (hlast | hnew)
    · exact keyreport_peopleModeToggled_of_held hlast
    · rw [keyreport_peopleModeToggled, hnew, Bool.false_and, Bool.xor_false]

/-- A report with Shift and Orange set inverts Shift lock (S7). -/
theorem keyreport_shiftToggled_of_gesture {q : Packet} (s : State)
    (h : q.mod.getLsbD 0 = true ∧ q.mod.getLsbD 2 = true) :
    (keyUpdate q.keyA q.keyB (modUpdate (modifiersOf q) s)).shiftToggled = !s.shiftToggled := by
  rw [keyreport_shiftToggled, h.1, h.2]
  rfl

/-- Settles O29: the first report leaves the People bit held, and each of the three inverts Shift lock. -/
theorem heldButtonsRetriggerShiftNotPeople : Obligations.HeldButtonsRetriggerShiftNotPeople := by
  intro s p q r _ _ _
  refine ⟨_, _, _, exec_keyreport s p, exec_keyreport _ q, exec_keyreport _ r, ?people, ?shift⟩
  case people =>
    intro hp _
    exact keyreport_peopleModeToggled_of_held ((getLsbD_modifiersOf p (by decide)).trans hp)
  case shift =>
    intro hall
    have hp := keyreport_shiftToggled_of_gesture s (hall p (by simp))
    have hq := keyreport_shiftToggled_of_gesture
      (keyUpdate p.keyA p.keyB (modUpdate (modifiersOf p) s)) (hall q (by simp))
    have hr := keyreport_shiftToggled_of_gesture
      (keyUpdate q.keyA q.keyB (modUpdate (modifiersOf q) (keyUpdate p.keyA p.keyB (modUpdate (modifiersOf p) s))))
      (hall r (by simp))
    rw [hp, Bool.not_not] at hq
    exact ⟨hp, hq, hr.trans (congrArg _ hq)⟩

/-- A report of the codes held before makes no event, since every test of R141 to R144 fails. -/
theorem keyEvents_of_held {a b p0 p1 : Byte} (h : (a = p0 ∧ b = p1) ∨ (a = p1 ∧ b = p0)) :
    keyEvents a b p0 p1 = [] := by
  refine List.eq_nil_iff_forall_not_mem.mpr fun x hx => ?_
  simp only [mem_keyEvents, isNewTo_iff] at hx
  rcases h with ⟨rfl, rfl⟩ | ⟨rfl, rfl⟩ <;> simp at hx

/-- Settles O34: the report's events are those of held codes. -/
theorem heldKeysEmitNoEvent : Obligations.HeldKeysEmitNoEvent := by
  intro s p _ hheld
  refine ⟨_, exec_keyreport s p, ?_⟩
  rw [keyreport_out, keyEvents_of_held hheld, List.append_nil]

/-- Settles O36: a held code passes the test of the slot it stands in. -/
theorem keyMissingFromAReportIsReleased : Obligations.KeyMissingFromAReportIsReleased := by
  intro s p c _ hc hheld hA hB
  have hnew : isNewTo c p.keyA p.keyB = true := isNewTo_iff.mpr ⟨hc, hA, hB⟩
  have hslot : s.lastKeySlot0 = c ∨ s.lastKeySlot1 = c := by
    by_contra hnone
    obtain ⟨h0, h1⟩ := not_or.mp hnone
    simp [State.slotCount, h0, h1] at hheld
  refine ⟨_, _, exec_keyreport s p, keyreport_out p s, mem_keyEvents.mpr (.inr (.inr ?_))⟩
  rcases hslot with rfl | rfl
  · exact .inl ⟨hnew, rfl⟩
  · exact .inr ⟨hnew, rfl⟩

/-- How many of two slots hold a code. -/
def holds (x y c : Byte) : Nat := (if x = c then 1 else 0) + (if y = c then 1 else 0)

theorem State.slotCount_eq_holds (s : State) (c : Byte) : s.slotCount c = holds s.lastKeySlot0 s.lastKeySlot1 c := rfl

/-- With no code doubled a code stands in one slot at most. -/
theorem holds_le_one {x y c : Byte} (hc : c ≠ 0) (h : x ≠ y ∨ x = 0) : holds x y c ≤ 1 := by
  unfold holds
  split_ifs with hx hy
  · rcases h with h | h
    · exact absurd (hx.trans hy.symm) h
    · exact absurd (hx.symm.trans h) hc
  all_goals omega

theorem holds_eq_zero_iff {x y c : Byte} : holds x y c = 0 ↔ c ≠ x ∧ c ≠ y := by
  rw [ne_comm (a := c), ne_comm (a := c)]
  simp [holds]

theorem count_eventIf_same (t : Bool) (k c : Byte) (d : Dir) :
    (eventIf t k d).count (.keyEvent c d) = if t = true ∧ k = c then 1 else 0 := by
  cases t <;> simp [eventIf, List.count_cons]

theorem count_eventIf_other (t : Bool) (k c : Byte) {d d' : Dir} (h : d ≠ d') :
    (eventIf t k d).count (.keyEvent c d') = 0 := by
  refine List.count_eq_zero.mpr fun hmem => ?_
  obtain ⟨-, ⟨⟩⟩ := mem_eventIf.mp hmem
  exact h rfl

/-- The Downs (or Ups) of a code number the slots it stands in, unless one of the slots tested against holds it too. -/
theorem count_tested_eventIf {x y : Byte} {c : Byte} (hc : c ≠ 0) (k e : Byte) (d : Dir) :
    (eventIf (isNewTo k x y) k d).count (.keyEvent c d) + (eventIf (isNewTo e x y) e d).count (.keyEvent c d) =
      if holds x y c = 0 then holds k e c else 0 := by
  have htest {j : Byte} : (isNewTo j x y = true ∧ j = c) ↔ (holds x y c = 0 ∧ j = c) := by
    refine and_congr_left fun hj => ?_
    rw [hj, isNewTo_iff, holds_eq_zero_iff]
    exact and_iff_right hc
  simp only [count_eventIf_same, htest]
  by_cases h : holds x y c = 0
  · simp only [h, true_and, if_true]
    rfl
  · simp only [h, false_and, if_false]

theorem count_down_keyEvents {a b p0 p1 c : Byte} (hc : c ≠ 0) :
    (keyEvents a b p0 p1).count (.keyEvent c .down) = if holds p0 p1 c = 0 then holds a b c else 0 := by
  rw [← count_tested_eventIf hc a b .down]
  simp [keyEvents, count_eventIf_other]

theorem count_up_keyEvents {a b p0 p1 c : Byte} (hc : c ≠ 0) :
    (keyEvents a b p0 p1).count (.keyEvent c .up) = if holds a b c = 0 then holds p0 p1 c else 0 := by
  rw [← count_tested_eventIf hc p0 p1 .up]
  simp [keyEvents, count_eventIf_other]

/-- Settles O35: a code that is in one slot before and one after makes no event, and one that is only in the slots
before, or only in those after, makes one. -/
theorem eventsAccountForTheHeldKeys : Obligations.EventsAccountForTheHeldKeys := by
  intro s p c _ hc hbefore hafter
  refine ⟨_, _, exec_keyreport s p, keyreport_out p s, ?_⟩
  have hb : holds s.lastKeySlot0 s.lastKeySlot1 c ≤ 1 := holds_le_one hc hbefore
  have ha : holds p.keyA p.keyB c ≤ 1 := holds_le_one hc hafter
  rw [count_down_keyEvents hc, count_up_keyEvents hc, State.slotCount_eq_holds, State.slotCount_eq_holds,
    keyUpdate_lastKeySlot0, keyUpdate_lastKeySlot1]
  split_ifs <;> omega

/-- Against empty slots every code of a report is new, and nothing is released (R214). -/
theorem keyEvents_empty (a b : Byte) : keyEvents a b 0 0 = ([a, b].filter (· ≠ 0)).map (.keyEvent · .down) := by
  rw [keyEvents_eq_filter]
  simp

/-- Settles O51: a reset clears the two flags, the modifiers and the slots that the report is compared with. -/
theorem firstReportAfterResetStartsFromNothing : Obligations.FirstReportAfterResetStartsFromNothing := by
  intro s p _
  refine ⟨s.restored, _, exec_reset s, exec_keyreport _ p, ?out, ?people, ?shift, keyreport_lastModifiers p _⟩
  case out =>
    rw [keyreport_out, ← keyEvents_empty]
    rfl
  case people =>
    rw [keyreport_peopleModeToggled]
    simp [State.restored]
  case shift =>
    rw [keyreport_shiftToggled_xor]
    simp [State.restored]

end Sys2Proof.Machine

/-! PROOF. Sub-block TR (spec/43_translator.md R161 to R170): the index of a key code as row and column, and the answers
of `Translate` read off it. -/

namespace Sys2Proof.Machine

/-- The offset of a key code as a number (R161, decision D13). -/
theorem keyOffset_toNat (k : Byte) : (keyOffset k).toNat = (k.toNat + 256 - 0x11) % 256 :=
  (BitVec.toNat_sub' k Const.keyBase).trans (congrArg (· % 256) (by simp [Const.keyBase]))

/-- The row bits [6:4] of an offset, moved to [5:3] (R162). -/
theorem rowBits_eq (n : Nat) : (n &&& 0x70) >>> 1 = 2 ^ 3 * (n / 2 ^ 4 % 2 ^ 3) := by
  apply Nat.eq_of_testBit_eq
  intro i
  rw [show 0x70 = 2 ^ 4 * (2 ^ 3 - 1) from rfl, Nat.testBit_shiftRight, Nat.testBit_and, Nat.testBit_two_pow_mul,
    Nat.testBit_two_pow_mul, Nat.testBit_two_pow_sub_one, Nat.testBit_mod_two_pow, Nat.testBit_div_two_pow]
  by_cases hi : 3 ≤ i
  · obtain ⟨j, rfl⟩ := Nat.exists_eq_add_of_le hi
    have hplace : 1 + (3 + j) = 4 + j := by omega
    simp [hplace, Bool.and_comm, Nat.add_comm j]
  · have hbelow : ¬ 4 ≤ 1 + i := by omega
    simp [hi, hbelow]

/-- The index of a key code is eight times the row of its offset plus the column (R162). -/
theorem tableIndex_eq_keyOffset (k : Byte) :
    tableIndex k = (keyOffset k).toNat / 16 % 8 * 8 + (keyOffset k).toNat % 8 := by
  generalize hx : (keyOffset k).toNat = x
  have hbits : tableIndex k = ((x &&& 0x70) >>> 1 ||| (x &&& 2 ^ 3 - 1)) := by
    rw [← hx]
    simp [tableIndex, Const.rowMask, Const.colMask]
  have hcol : x % 2 ^ 3 < 2 ^ 3 := Nat.mod_lt _ (by decide)
  rw [hbits, rowBits_eq, Nat.and_two_pow_sub_one_eq_mod, ← Nat.two_pow_add_eq_or_of_lt hcol]
  omega

theorem tableIndex_eq (k : Byte) :
    tableIndex k = (k.toNat + 256 - 0x11) % 256 / 16 % 8 * 8 + (k.toNat + 256 - 0x11) % 256 % 8 := by
  rw [← keyOffset_toNat, tableIndex_eq_keyOffset]

/-- What is added to a code is added to its offset (R161). -/
theorem keyOffset_add_toNat (k j : Byte) : (keyOffset (k + j)).toNat = ((keyOffset k).toNat + j.toNat) % 256 := by
  rw [keyOffset, add_sub_right_comm]
  exact BitVec.toNat_add (keyOffset k) j

/-- Bit 7 of the offset is in neither the row nor the column (R163). -/
theorem tableIndex_add_80 (k : Byte) : tableIndex (k + 0x80) = tableIndex k := by
  rw [tableIndex_eq_keyOffset, tableIndex_eq_keyOffset, keyOffset_add_toNat]
  generalize (keyOffset k).toNat = x
  have hrow : (x + 0x80) % 256 / 16 % 8 = x / 16 % 8 := by omega
  have hcol : (x + 0x80) % 256 % 8 = x % 8 := by omega
  exact congrArg₂ (· * 8 + ·) hrow hcol

/-- Bit 3 of the offset is between the row and the column; where it is clear, setting it carries into neither (R163). -/
theorem tableIndex_add_08 {k : Byte} (hclear : (keyOffset k).getLsbD 3 = false) :
    tableIndex (k + 0x08) = tableIndex k := by
  have hclear : (keyOffset k).toNat.testBit 3 = false := hclear
  rw [Nat.testBit_eq_decide_div_mod_eq, decide_eq_false_iff_not] at hclear
  rw [tableIndex_eq_keyOffset, tableIndex_eq_keyOffset, keyOffset_add_toNat]
  generalize (keyOffset k).toNat = x at *
  have hrow : (x + 0x08) % 256 / 16 % 8 = x / 16 % 8 := by omega
  have hcol : (x + 0x08) % 256 % 8 = x % 8 := by omega
  exact congrArg₂ (· * 8 + ·) hrow hcol

/-- A code is outside the tables when its row is 7 (R163). -/
theorem tableLen_le_tableIndex_iff (k : Byte) :
    Const.tableLen ≤ tableIndex k ↔ (k.toNat + 256 - 0x11) % 256 / 16 % 8 = 7 := by
  rw [tableIndex_eq, Const.tableLen]
  omega

/-- The translation reads a key code through its index alone (R163, R225). -/
theorem exec_translate_congr {k j : Byte} (h : tableIndex k = tableIndex j) (s : State) :
    exec (.translate k) s = exec (.translate j) s := by
  rw [exec_translate, exec_translate, translateKey, translateKey, h]

/-- Settles O38: row 7 is the bound test, and below it the index is row and column. -/
theorem translateReadsTheSelectedTable : Obligations.TranslateReadsTheSelectedTable := by
  intro s k x row col table e
  have htable : selectTable s = table := rfl
  have hindex : tableIndex k = row * 8 + col := tableIndex_eq k
  have hrow : Const.tableLen ≤ tableIndex k ↔ row = 7 := tableLen_le_tableIndex_iff k
  rw [exec_translate, translateKey, htable, readTable, hindex]
  rw [hindex] at hrow
  simp only [hrow]
  rfl

/-- Settles O39: the 32 codes are those whose row is 7. -/
theorem translateRejectsRowSeven : Obligations.TranslateRejectsRowSeven := by
  have hrow (k : Byte) : Const.tableLen ≤ tableIndex k ↔
      ((0x01 ≤ k.toNat ∧ k.toNat ≤ 0x10) ∨ (0x81 ≤ k.toNat ∧ k.toNat ≤ 0x90)) := by
    have := k.isLt
    rw [tableLen_le_tableIndex_iff]
    omega
  refine ⟨fun s k hk => ?rejected, fun k hk => Nat.lt_of_not_le (mt (hrow k).mp hk)⟩
  case rejected =>
    rw [exec_translate, translateKey, if_pos ((hrow k).mpr hk)]
    rfl

/-- Settles O40: the translation reads the code through its index, which lacks the two bits of the offset. -/
theorem translateIgnoresTwoBits : Obligations.TranslateIgnoresTwoBits := fun s k =>
  ⟨exec_translate_congr (tableIndex_add_80 k) s, fun hclear => exec_translate_congr (tableIndex_add_08 hclear) s⟩

/-- Settles O41: the translation's table is selected by the elements that the report has written. -/
theorem translateSeesTheReportsModifiers : Obligations.TranslateSeesTheReportsModifiers := by
  intro s p k _
  refine ⟨_, _, exec_keyreport s p, exec_translate _ k, ?_⟩
  simp only [State.reply_answer, translateKey, selectTable, isPeopleModeActive, isOrangeActive, isGreenActive,
    isShiftActive, keyreport_peopleModeToggled, keyreport_shiftToggled_xor, Const.modOrange, Const.modGreen,
    Const.modShift, keyUpdate_lastModifiers, modUpdate_lastModifiers, keyUpdate_rom, modUpdate_rom]
  simp only [getLsbD_modifiersOf p (i := 0) (by decide), getLsbD_modifiersOf p (i := 1) (by decide),
    getLsbD_modifiersOf p (i := 2) (by decide)]
  rfl

end Sys2Proof.Machine

/-! PROOF. Frames (spec/10_state.md section 1, spec/20_memory.md section 3), the reset values (R36, R210) and the output
rows (R85 to R87). -/

namespace Sys2Proof.Machine

/-- Settles O49: the reset's answer is the state restored, which is the statement's. -/
theorem resetRestoresEveryElement : Obligations.ResetRestoresEveryElement := fun s => ⟨_, exec_reset s, rfl⟩

/-- Settles O50: each value is read off the literal. -/
theorem resetStateHoldsTheResetValues : Obligations.ResetStateHoldsTheResetValues :=
  ⟨rfl, rfl, rfl, rfl, rfl, rfl, rfl, rfl, rfl⟩

theorem emitKey_of_ne {c : Byte} (hc : c ≠ 0) (d : Dir) (s : State) : emitKey c d s = s.emit (.keyEvent c d) :=
  if_neg hc

theorem emitKey_zero (d : Dir) (s : State) : emitKey 0 d s = s := if_pos rfl

/-- An event row changes the output list at most. -/
theorem emitKey_frame (c : Byte) (d : Dir) (s : State) : emitKey c d s = { s with out := (emitKey c d s).out } := by
  by_cases hc : c = 0
  · rw [hc, emitKey_zero]
  · rw [emitKey_of_ne hc]
    rfl

/-- Settles O53: each row emits its item; the two event rows do so for a code other than 0. -/
theorem outputRowsEmitTheirItem : Obligations.OutputRowsEmitTheirItem := fun s =>
  ⟨exec_initMsg s, exec_kaMsg s,
    fun c hc => (exec_keyDown s c).trans (congrArg _ (emitKey_of_ne hc .down s)),
    fun c hc => (exec_keyUp s c).trans (congrArg _ (emitKey_of_ne hc .up s)),
    exec_diagFraming s, exec_diagChecksum s⟩

/-- Settles O54: an event row with the code 0 is the identity. -/
theorem codeZeroEmitsNoEvent : Obligations.CodeZeroEmitsNoEvent := fun s =>
  ⟨(exec_keyDown s 0).trans (congrArg _ (emitKey_zero .down s)),
    (exec_keyUp s 0).trans (congrArg _ (emitKey_zero .up s))⟩

/-- Settles O55: of the rows left only a diagnostic's touches the sequencer, and none touches the other elements. -/
theorem nonStoringInstructionsKeepTheBuffer : Obligations.NonStoringInstructionsKeepTheBuffer := by
  intro i s t h hreset hHb hKr hcollect hcomplete
  cases i with
  | reset => exact absurd rfl hreset
  | startHb => exact absurd rfl hHb
  | startKr => exact absurd rfl hKr
  | collect b => exact absurd rfl (hcollect b)
  | complete b => exact absurd rfl (hcomplete b)
  | frameerr p =>
    cases h
    exact ⟨fun _ => rfl, rfl, rfl, rfl, fun hframe _ => absurd rfl (hframe p)⟩
  | ckerr p =>
    cases h
    exact ⟨fun _ => rfl, rfl, rfl, rfl, fun _ hck => absurd rfl (hck p)⟩
  | poll now =>
    cases h
    rw [keepAlive_eq]
    exact ⟨fun _ => rfl, rfl, rfl, rfl, fun _ _ => ⟨rfl, rfl⟩⟩
  | keyDown c | keyUp c =>
    cases h
    rw [emitKey_frame]
    exact ⟨fun _ => rfl, rfl, rfl, rfl, fun _ _ => ⟨rfl, rfl⟩⟩
  | _ =>
    cases h
    exact ⟨fun _ => rfl, rfl, rfl, rfl, fun _ _ => ⟨rfl, rfl⟩⟩

/-- Settles O56: each of the four rows is one store; the eighth byte's validation touches neither the buffer nor the
elements listed (`validate_frame`). -/
theorem storingInstructionsChangeOneCell : Obligations.StoringInstructionsChangeOneCell := by
  intro i s t cell h hrow
  have hstored (u : State) (n : Nat) (b : Byte) (hu : u.buf = (s.storeBuf n b).buf) :
      ∀ a, a ≠ n → Memory.read u.buf a = Memory.read s.buf a := by
    rw [hu]
    exact (s.storeBuf_read n b).2
  rcases hrow with ⟨rfl, rfl⟩ | ⟨rfl, rfl⟩ | ⟨b, rfl, rfl⟩ | ⟨b, rfl, rfl⟩
  · cases h
    exact ⟨hstored _ 0 Const.startHeartbeat rfl, rfl, rfl, rfl, rfl, rfl, fun _ => ⟨⟨rfl, rfl, rfl, rfl, rfl⟩, rfl⟩⟩
  · cases h
    exact ⟨hstored _ 0 Const.startKeyreport rfl, rfl, rfl, rfl, rfl, rfl, fun _ => ⟨⟨rfl, rfl, rfl, rfl, rfl⟩, rfl⟩⟩
  · cases h
    exact ⟨hstored _ _ b rfl, rfl, rfl, rfl, rfl, rfl, fun _ => ⟨⟨rfl, rfl, rfl, rfl, rfl⟩, rfl⟩⟩
  · rw [exec_complete] at h
    rw [validate_frame h]
    exact ⟨hstored _ 7 b rfl, rfl, rfl, rfl, rfl, rfl, fun hcomplete => absurd rfl (hcomplete b)⟩

/-- Settles O57: the five elements are written by the two report rows and a completing byte, the timestamp by a poll. -/
theorem otherInstructionsKeepTheRegisters : Obligations.OtherInstructionsKeepTheRegisters := by
  intro i s t h hreset
  cases i with
  | reset => exact absurd rfl hreset
  | keyreport p =>
    cases h
    exact ⟨fun hreport _ => absurd rfl (hreport p), fun _ => rfl⟩
  | complete b =>
    rw [exec_complete] at h
    rw [validate_frame h]
    exact ⟨fun _ hcomplete => absurd rfl (hcomplete b), fun _ => rfl⟩
  | poll now =>
    cases h
    exact ⟨fun _ _ => sameDecoderState_keepAlive now s, fun hpoll => absurd rfl (hpoll now)⟩
  | keyDown c | keyUp c =>
    cases h
    rw [emitKey_frame]
    exact ⟨fun _ _ => ⟨rfl, rfl, rfl, rfl, rfl⟩, fun _ => rfl⟩
  | _ =>
    cases h
    exact ⟨fun _ _ => ⟨rfl, rfl, rfl, rfl, rfl⟩, fun _ => rfl⟩

end Sys2Proof.Machine
